-- ==== Sys2Proof/Word.lean ====
section
/-! DEFINITION. The words of the block's lines (R163): the lines carry bytes, and a field of more than
one byte is a bit vector of that width. Everything the block computes in whole numbers (lengths,
weights, moments, times) is an `Int` or a `Nat` and is not declared here. -/

namespace Sys2Proof

/-- One byte of a frame, message or record (R163). -/
abbrev Byte := BitVec 8

/-- A two-byte field, and the check word that ends every frame, message and record (R163). -/
abbrev Word16 := BitVec 16

/-- A booking number as carried on the lines: five bytes (R163). -/
abbrev BookingWord := BitVec 40

end Sys2Proof
end

