-- ==== Sys2Proof/Config.lean ====
section
/-! DEFINITION. What is fixed in the part: the capacities of its lists and tables and its fixed times
and distances, each with the rule that states it. What is configured stands in the configuration
store (Syntax.lean and Machine/Start.lean). The spec leaves no value of the block open, so no free
value is declared. -/

namespace Sys2Proof.Config

/-- A placed list holds 0..24 records (R5). -/
abbrev maxPlaced : Nat := 24
/-- The reservation table holds 0..4 reservations (R12). -/
abbrev maxReservations : Nat := 4
/-- The inbound list holds 0..6 entries (R13). -/
abbrev maxInbound : Nat := 6
/-- The call queue holds 0..4 CALLs (R64). -/
abbrev maxCalls : Nat := 4
/-- The waiting queue holds 0..16 entries (R101). -/
abbrev maxWaiting : Nat := 16
/-- The dispatched list holds 0..16 entries (R101). -/
abbrev maxDispatched : Nat := 16
/-- The offer list holds 0..48 offers (R81). -/
abbrev maxOffers : Nat := 48
/-- The condition list holds 0..16 entries (R164). -/
abbrev maxConditions : Nat := 16
/-- The transmit queue holds 0..8 frames (R150). -/
abbrev maxQueued : Nat := 8
/-- A frame is dropped at its 8th attempt (R157). -/
abbrev maxAttempts : Nat := 8
/-- The consecutive-failure count at which the line state becomes SILENT (R158). -/
abbrev silentFailures : Nat := 16
/-- Saturation of the dropped-call count, a condition's count and the withheld-event count
(R68, R164, R176). -/
abbrev maxCount : Nat := 255
/-- A lane is full when its free length is less than 22 dm (R17). -/
abbrev fullBelow : Int := 22
/-- The segregation distance, 30 dm (R37). -/
abbrev segregationDistance : Int := 30
/-- The least inferred length of a vehicle, 10 dm (R121, R174). -/
abbrev minInferred : Int := 10
/-- The bound at which the ship estimate saturates (R52). -/
abbrev estimateBound : Int := 2000000000
/-- The bound of the longitudinal arm (R47). -/
abbrev armBound : Int := 1200
/-- The survey timer, 20 s in milliseconds (R172, R181). -/
abbrev surveyTime : Nat := 20000
/-- The interval between probe times, 30 s in milliseconds (R159, R160). -/
abbrev probeInterval : Nat := 30000
/-- The TALLY period, 5 s in milliseconds (R140). -/
abbrev tallyPeriod : Nat := 5000
/-- The TALLY spacing, 0.5 s in milliseconds (R140). -/
abbrev tallySpacing : Nat := 500
/-- The age past which a peer entry is stale, 30 s in milliseconds (R142). -/
abbrev staleAge : Nat := 30000

end Sys2Proof.Config
end

