-- ==== Sys2Proof/Syntax.lean ====
section
/-! DEFINITION. The commands of the block: one constructor of `Instr` for each row of
spec/opcode_table.json, with the operands the row's rule names. A command is a frame arriving on the
deck line, a message of the sensor line, a record of the gate line, a crew command of the panel line,
a change of a discrete input, the expiry of a timer, an event of the deck line at this node, a write
of the configuration store, or a start. -/

namespace Sys2Proof

/-! ## Words carried on the lines (R163) -/

/-- A round id: a ramp id together with that ramp's round sequence (00_scope 3.3, R80). -/
structure RoundId where
  ramp : Byte
  seq : Byte
  deriving DecidableEq, Repr

/-- The 16-byte arrival record, as carried by the gate line and inside CALL (R163). -/
structure ArrivalWire where
  booking : BookingWord
  kind : Byte
  length : Word16
  width : Byte
  height : Byte
  weight : Word16
  axle : Byte
  hazard : Byte
  flags : Byte
  rank : Byte
  deriving DecidableEq, Repr

/-- The 20-byte payload of a CALL (R163). -/
structure CallPayload where
  round : RoundId
  deckMask : Byte
  /-- offer window in units of 10 ms -/
  window : Byte
  arrival : ArrivalWire
  deriving DecidableEq, Repr

/-- The 7-byte payload of an OFFER (R163). -/
structure OfferPayload where
  round : RoundId
  bay : Byte
  deck : Byte
  lane : Byte
  score : Word16
  deriving DecidableEq, Repr

/-- The 4-byte payload of an AWARD (R163). -/
structure AwardPayload where
  round : RoundId
  bay : Byte
  lane : Byte
  deriving DecidableEq, Repr

/-- The 3-byte payload of a DECLINE (R163). -/
structure DeclinePayload where
  round : RoundId
  reason : Byte
  deriving DecidableEq, Repr

/-- The 11-byte payload of a PLACED frame (R163). -/
structure PlacedPayload where
  round : RoundId
  booking : BookingWord
  bay : Byte
  lane : Byte
  front : Word16
  deriving DecidableEq, Repr

/-- The payload of a NOTICE of subtype MISSING after its subtype byte (R163). -/
structure MissingPayload where
  round : RoundId
  booking : BookingWord
  deriving DecidableEq, Repr

/-- The 20-byte payload of a TALLY (R163). -/
structure TallyPayload where
  bay : Byte
  callNumber : Byte
  seq : Byte
  nodeState : Byte
  weight : BitVec 24
  mt : BitVec 32
  ml : BitVec 32
  vehicles : Byte
  freeTotal : Word16
  openLanes : Byte
  congested : Byte
  deriving DecidableEq, Repr

/-- What a frame carries between its header and its check word: the kind and the payload of the command's
row, or a kind byte and payload bytes that are those of no row, by an unknown kind code, an unknown NOTICE
subtype or a payload of another size (R161). -/
inductive RxForm where
  | asRow
  | other (kind : Byte) (payload : List Byte)
  deriving DecidableEq, Repr

/-- What a receiver finds around the payload of a frame: the header's class, source, call number and
payload length, and the check word at the frame's end (R163). The kind byte is that of the command's
row. A frame whose `form` is that of no row may come as any of the nine frame commands, and the payload of
the row is then not in it (log entry 16). -/
structure RxHeader where
  cls : Byte
  source : Byte
  callNumber : Byte
  length : Byte
  check : Word16
  form : RxForm := .asRow
  deriving DecidableEq, Repr

/-- What a message of the sensor line or a record of the gate line carries before its check word: the code
and the fields of the command's row, or bytes that are those of no row, by an unknown code or a length that
is not the length of its code (R162). -/
inductive LineForm where
  | asRow
  | other (bytes : List Byte)
  deriving DecidableEq, Repr

/-- What a receiver finds of a sensor line message or a gate line record beside the fields of the command's
row: its check word, and whether the row's code and fields stand before it (R162, R163). A message whose
`form` is that of no row may come as any command of its line, and the fields of the row are then not in it
(log entry 16). -/
structure RxCheck where
  word : Word16
  form : LineForm := .asRow
  deriving DecidableEq, Repr

/-! ## The configuration store (R178) -/

/-- The eight attributes (R27). -/
inductive Attr where
  | car | unacc | oversize | high | wide | heavy | hazard | reefer
  deriving DecidableEq, Repr

/-- OPEN or CLOSED: the state at first start, and the remembered state of a lane in FAULT (R1, R2). -/
inductive OpenClosed where
  | opened | closed
  deriving DecidableEq, Repr

/-- The role a configuration store names (R178). -/
inductive RoleCode where
  | bay | ramp | neither
  deriving DecidableEq, Repr

/-- One lane entry of the configuration store, as written and not yet checked (R1, R178). -/
structure LaneEntry where
  number : Int
  length : Int
  y : Int
  xf : Int
  axle : Int
  sockets : Int
  matchSet : List Attr
  careSet : List Attr
  firstState : OpenClosed
  deriving DecidableEq, Repr

/-- The configuration store, as written over the service line and not yet checked (R178). Lengths in
dm, weights in tenths of a tonne, moments in tonne-metres, times in the unit each rule states
(`awardGrace` and `offerWindow` in ms, `travelLimit`, `listenInterval` and `recallDelay` in s). The
field defaults are the defaults the rules state, and DESIGN CHOICE values where they state none
(log entry 4). -/
structure ConfigStore where
  role : RoleCode := .neither
  nodeNumber : Int := 1
  rampId : Int := 0
  deck : Int := 1
  lanes : List LaneEntry := []
  gap : Int := 4
  tolerance : Int := 30
  unidentifiedWeight : Int := 250
  bayWeightLimit : Int := 60000
  scanOrder : List Int := []
  mtLim : Int := 0
  mlMin : Int := 1
  mlMax : Int := 0
  baseMT : Int := 0
  baseML : Int := 0
  wF : Int := 6
  wD : Int := 6
  wH : Int := 4
  awardGrace : Int := 1000
  congestHigh : Int := 4
  congestLow : Int := 2
  travelLimit : Int := 600
  lashClass : Int := 2
  alarmMask : List Int := []
  listenInterval : Int := 12
  offerWindow : Int := 400
  deckMask : Byte := 1
  attemptLimit : Int := 3
  recallDelay : Int := 8
  holdHigh : Int := 12
  holdLow : Int := 6
  deriving DecidableEq, Repr

/-! ## Other operands -/

/-- A frame that another node starts together with this one: what the line compares (R155). -/
structure Rival where
  cls : Nat
  source : Nat
  deriving DecidableEq, Repr

/-- A part of the retained stowage copy (R179). -/
inductive CopyPart where
  | lane (number : Nat)
  | inbound
  | node
  deriving DecidableEq, Repr

/-! ## The commands -/

/-- The commands of the block, one constructor for each row of spec/opcode_table.json, in the
table's order. -/
inductive Instr where
  /-- POWER_ON (R177) -/
  | powerOn
  /-- PANEL_RESET (R177) -/
  | panelReset
  /-- START (R177), with the levels found on the discrete inputs at the start (R107, R169) -/
  | start (stopHigh : Bool) (gradient : Fin 4)
  /-- CONFIGURATION_WRITE (R178), with the store's new contents -/
  | configurationWrite (store : ConfigStore)
  /-- OPEN (R20) -/
  | openLane (lane : Nat)
  /-- CLOSE (R21) -/
  | closeLane (lane : Nat)
  /-- OPEN_ALL (R20) -/
  | openAll
  /-- RELEASE (R22) -/
  | release (lane : Nat) (rank : Nat)
  /-- LASH_CONFIRM (R133) -/
  | lashConfirm (lane : Nat)
  /-- ACK (R168) -/
  | ack
  /-- ADVANCE_PORT (R115) -/
  | advancePort
  /-- STOP_LINE_RISING_EDGE (R169) -/
  | stopLineRisingEdge
  /-- GRADIENT_CLASS_CHANGE (R107), with the input's new class -/
  | gradientClassChange (gradient : Fin 4)
  /-- ARRIVAL (R102): the gate line record and its check word -/
  | arrival (record : ArrivalWire) (check : RxCheck)
  /-- CALL (R65) -/
  | call (header : RxHeader) (payload : CallPayload)
  /-- OFFER (R84) -/
  | offer (header : RxHeader) (payload : OfferPayload)
  /-- AWARD (R91) -/
  | award (header : RxHeader) (payload : AwardPayload)
  /-- DECLINE (R110) -/
  | decline (header : RxHeader) (payload : DeclinePayload)
  /-- PLACED (R111) -/
  | placed (header : RxHeader) (payload : PlacedPayload)
  /-- NOTICE_MISSING (R111) -/
  | noticeMissing (header : RxHeader) (payload : MissingPayload)
  /-- TALLY (R141) -/
  | tally (header : RxHeader) (payload : TallyPayload)
  /-- NOTICE_WITHDRAWN (R142) -/
  | noticeWithdrawn (header : RxHeader)
  /-- PORTCALL (R146), with the new call number of its payload -/
  | portcall (header : RxHeader) (number : Byte)
  /-- ENTER (R121): lane, measured length, check word -/
  | enter (lane : Byte) (m : Word16) (check : RxCheck)
  /-- LEAVE (R134) -/
  | leave (lane : Byte) (m : Word16) (check : RxCheck)
  /-- FAULT (R171) -/
  | sensorFault (lane : Byte) (check : RxCheck)
  /-- CLEAR (R171) -/
  | sensorClear (lane : Byte) (check : RxCheck)
  /-- LEVEL (R174) -/
  | level (lane : Byte) (m : Word16) (check : RxCheck)
  /-- END (R175) -/
  | surveyEnd (check : RxCheck)
  /-- SURVEY_TIMER_EXPIRY (R175) -/
  | surveyTimerExpiry
  /-- LISTEN_INTERVAL_END (R183) -/
  | listenIntervalEnd
  /-- TRANSMIT_START (R155): the line is free; the frames other nodes start with this one -/
  | transmitStart (rivals : List Rival)
  /-- ATTEMPT_END (R157): whether this node saw an acknowledgement -/
  | attemptEnd (acknowledged : Bool)
  /-- PROBE_TIME (R160) -/
  | probeTime
  /-- EVALUATION_COMPLETION (R75) -/
  | evaluationCompletion
  /-- DEADLINE_EXPIRY (R73), of the CALL of one round -/
  | deadlineExpiry (round : RoundId)
  /-- RESERVATION_EXPIRY (R97), of the reservation of one round -/
  | reservationExpiry (round : RoundId)
  /-- WINDOW_TIMER_EXPIRY (R85) -/
  | windowTimerExpiry
  /-- NOT_BEFORE_TIME_PASSES (R106), of the waiting entry of one booking -/
  | notBeforeTimePasses (booking : Nat)
  /-- TRAVEL_TIMER_EXPIRY (R119), of the inbound entry of one booking -/
  | travelTimerExpiry (booking : Nat)
  /-- LASH_TIMER_EXPIRY (R132), of the placed record of one booking -/
  | lashTimerExpiry (booking : Nat)
  /-- TALLY_PERIOD (R140) -/
  | tallyPeriod
  /-- TALLY_SPACING_END (R140) -/
  | tallySpacingEnd
  /-- PEER_ENTRY_STALE (R142), of the entry of one bay number -/
  | peerEntryStale (bay : Nat)
  /-- COPY_WRITE_COMPLETION (R179), of one part of the retained copy -/
  | copyWriteCompletion (part : CopyPart)
  deriving DecidableEq, Repr

end Sys2Proof
end

