-- ==== Sys2Proof/WellFormed.lean ====
section
/-! DEFINITION. Which commands can be sent: the ranges the spec gives the things an operand names.
The block itself does not lean on this check: a command whose operand names nothing the block holds
finds nothing to act on, and a frame, message or record given as bytes is taken as one of no row. -/

namespace Sys2Proof

/-- A node number: 1..48 for a bay, 60..63 for a ramp (00_scope 3.3, R161). -/
def isNodeNumber (n : Nat) : Bool :=
  (decide (1 ≤ n) && decide (n ≤ 48)) || (decide (60 ≤ n) && decide (n ≤ 63))

/-- A rival frame is one that a node can start: a class 0..4 and a node number (R151, R155). -/
def Rival.wf (r : Rival) : Bool :=
  decide (r.cls ≤ 4) && isNodeNumber r.source

/-- A round id of some ramp: ramp id 0..3 (R80). -/
def RoundId.wf (r : RoundId) : Bool :=
  decide (r.ramp.toNat ≤ 3)

/-- A booking number: 1..2^40−1 (00_scope 3.3). -/
def bookingWf (b : Nat) : Bool :=
  decide (1 ≤ b) && decide (b < 2 ^ 40)

/-- A bay number: 1..48 (00_scope 3.3). -/
def bayWf (b : Nat) : Bool :=
  decide (1 ≤ b) && decide (b ≤ 48)

/-- A part of the retained copy: a lane copy is that of a lane number 0..7 (R1, R179). -/
def CopyPart.wf : CopyPart → Bool
  | .lane n => decide (n ≤ 7)
  | .inbound => true
  | .node => true

/-- A kind byte and payload bytes are those of a row: one of the eight kinds with a payload of its length,
or of its NOTICE subtype's (R161, R163). -/
def spellsARow (kind : Byte) (payload : List Byte) : Bool :=
  [((1 : Byte), 20), (2, 7), (3, 4), (4, 3), (5, 11), (6, 20), (8, 1)].contains
      (kind, payload.length) ||
    (decide (kind = 7) &&
      (decide (payload = [1]) || (decide (payload.head? = some 2) && decide (payload.length = 8))))

/-- A frame given as bytes is one that spells no row, with as many payload bytes as its length byte says
(R161, R163). -/
def RxHeader.wf (h : RxHeader) : Bool :=
  match h.form with
  | .asRow => true
  | .other kind payload =>
    !(spellsARow kind payload) && decide (payload.length = h.length.toNat)

/-- Bytes are the code and fields of a sensor line message to the node (R162, R163). -/
def spellsMessage (bytes : List Byte) : Bool :=
  [((1 : Byte), 4), (2, 4), (3, 2), (4, 2), (5, 4), (6, 1)].any fun x =>
    decide (bytes.head? = some x.1) && decide (bytes.length = x.2)

/-- Bytes are the code and fields of an ARRIVAL, the one record a gate line brings a node (R162, R163). -/
def spellsArrival (bytes : List Byte) : Bool :=
  decide (bytes.head? = some 1) && decide (bytes.length = 17)

/-- A message or record given as bytes is one that spells no row of its line (R162, R163). -/
def RxCheck.wf (spells : List Byte → Bool) (k : RxCheck) : Bool :=
  match k.form with
  | .asRow => true
  | .other bytes => !(spells bytes)

/-- The well-formed commands. -/
def Instr.wf : Instr → Bool
  | .transmitStart rivals => rivals.all Rival.wf
  | .deadlineExpiry r => r.wf
  | .reservationExpiry r => r.wf
  | .notBeforeTimePasses b => bookingWf b
  | .travelTimerExpiry b => bookingWf b
  | .lashTimerExpiry b => bookingWf b
  | .peerEntryStale b => bayWf b
  | .copyWriteCompletion p => p.wf
  | .powerOn => true
  | .panelReset => true
  | .start _ _ => true
  | .configurationWrite _ => true
  | .openLane _ => true
  | .closeLane _ => true
  | .openAll => true
  | .release _ _ => true
  | .lashConfirm _ => true
  | .ack => true
  | .advancePort => true
  | .stopLineRisingEdge => true
  | .gradientClassChange _ => true
  | .arrival _ k => k.wf spellsArrival
  | .call h _ => h.wf
  | .offer h _ => h.wf
  | .award h _ => h.wf
  | .decline h _ => h.wf
  | .placed h _ => h.wf
  | .noticeMissing h _ => h.wf
  | .tally h _ => h.wf
  | .noticeWithdrawn h => h.wf
  | .portcall h _ => h.wf
  | .enter _ _ k => k.wf spellsMessage
  | .leave _ _ k => k.wf spellsMessage
  | .sensorFault _ k => k.wf spellsMessage
  | .sensorClear _ k => k.wf spellsMessage
  | .level _ _ k => k.wf spellsMessage
  | .surveyEnd k => k.wf spellsMessage
  | .surveyTimerExpiry => true
  | .listenIntervalEnd => true
  | .attemptEnd _ => true
  | .probeTime => true
  | .evaluationCompletion => true
  | .windowTimerExpiry => true
  | .tallyPeriod => true
  | .tallySpacingEnd => true

end Sys2Proof
end

