-- ==== Sys2Proof/Machine/State.lean ====
section
/-! DEFINITION. The state of the block as plain data: one structure per block of 00_scope 2.3, the
discrete inputs, the outputs on the lines, the clock, and the queue of the commands that wait.
Lengths (dm), weights (tenths of a tonne), moments and positions are whole numbers (`Int`); counts
and times (ms) are `Nat`; numbers that wrap (call number, sequences) and fields of frames are bit
vectors of their width. -/

namespace Sys2Proof.Machine

open Sys2Proof

/-! ## Vehicles -/

/-- The kinds of vehicle (R25). -/
inductive VehicleKind where
  | car | van | driven | trailer | oversize
  deriving DecidableEq, Repr

/-- The segregation groups (R37). -/
inductive Group where
  | a | b | c | d | e | f
  deriving DecidableEq, Repr

/-- The kind field of an arrival record: a kind, or a code that names none (R26, R102). -/
inductive KindField where
  | named (k : VehicleKind)
  | unnamed (code : Byte)
  deriving DecidableEq, Repr

/-- The hazard field of an arrival record: none, a group, or a code that names neither (R26, R102). -/
inductive HazardField where
  | none
  | group (g : Group)
  | unnamed (code : Byte)
  deriving DecidableEq, Repr

/-- An arrival record as the nodes hold it (R25, R101). -/
structure Arrival where
  booking : Nat
  kind : KindField
  length : Int
  width : Int
  height : Int
  weight : Int
  axle : Int
  hazard : HazardField
  reefer : Bool
  overstow : Bool
  clamped : Bool
  rank : Nat
  deriving DecidableEq, Repr

/-- The status of a placed record (R7). -/
inductive Status where
  | lashing | lashed | unlashed | unidentified
  deriving DecidableEq, Repr

/-- The flags of a placed record (R8). -/
inductive Flag where
  | overstow | segregation | axle | filter | noSocket | misdirected | overcarried | interrupted
  deriving DecidableEq, Repr

/-- A placed record (R6), with its lash timer's expiry time while it is LASHING (R117). -/
structure Record where
  booking : Option Nat
  kind : Option VehicleKind
  length : Int
  weight : Int
  axle : Option Int
  hazard : Option Group
  reefer : Bool
  granted : Bool
  rank : Option Nat
  front : Int
  status : Status
  flags : List Flag
  round : Option RoundId
  lashDue : Option Nat
  deriving DecidableEq, Repr

/-! ## The Lane Table (R1 to R17) -/

/-- The configured fields of a lane, as loaded (R1). -/
structure LaneConf where
  number : Nat
  length : Int
  y : Int
  xf : Int
  axle : Int
  sockets : Nat
  matchSet : List Attr
  careSet : List Attr
  firstState : OpenClosed
  deriving DecidableEq, Repr

/-- The stored state of a lane; only a lane in FAULT holds a remembered state (R2). -/
inductive LaneState where
  | opened
  | closed
  | fault (remembered : OpenClosed)
  deriving DecidableEq, Repr

/-- A lane of the Lane Table (R1, R2, R3, R5, R9, R10). -/
structure Lane where
  number : Nat
  conf : LaneConf
  stored : LaneState
  suspect : Bool
  placed : List Record
  used : Int
  sockets : Nat
  deriving DecidableEq, Repr

/-- A reservation (R12). -/
structure Reservation where
  round : RoundId
  lane : Nat
  arrival : Arrival
  front : Int
  centre : Int
  expiry : Nat
  deriving DecidableEq, Repr

/-- An inbound entry (R13). The travel timer is its expiry time, absent once it has expired unacted
on in WITHDRAWN (R118). -/
structure Inbound where
  round : RoundId
  lane : Nat
  arrival : Arrival
  front : Int
  centre : Int
  travelDue : Option Nat
  interrupted : Bool
  deriving DecidableEq, Repr

/-- The Lane Table: the lanes in ascending number, the reservation table and the inbound list. -/
structure LaneTable where
  lanes : List Lane
  reservations : List Reservation
  inbound : List Inbound
  deriving DecidableEq, Repr

/-! ## The Call Evaluator (R64) -/

/-- A lane as the snapshot holds it: everything but the suspect mark (R70). -/
structure LaneSnap where
  number : Nat
  conf : LaneConf
  stored : LaneState
  placed : List Record
  used : Int
  sockets : Nat
  deriving DecidableEq, Repr

/-- The stowage an evaluation reads (R70). -/
structure Stowage where
  lanes : List LaneSnap
  reservations : List Reservation
  inbound : List Inbound
  deriving DecidableEq, Repr

/-- A snapshot: the stowage and the ship estimate formed with it (R70, R51). -/
structure Snapshot where
  stowage : Stowage
  st : Int
  sl : Int
  deriving DecidableEq, Repr

/-- An admitted CALL (R64). -/
structure QueuedCall where
  round : RoundId
  callNumber : Byte
  deckMask : Byte
  /-- offer window in ms -/
  window : Nat
  arrival : Arrival
  receipt : Nat
  deadline : Nat
  deriving DecidableEq, Repr

/-- The evaluation in flight: its CALL, its snapshot, and the restart it has reached (R64). -/
structure Evaluation where
  call : QueuedCall
  snapshot : Snapshot
  restarts : Nat
  deriving DecidableEq, Repr

/-- The round record: an entry for each ramp id 0..3 (R64). -/
structure RoundRecord where
  ramp0 : Option Byte
  ramp1 : Option Byte
  ramp2 : Option Byte
  ramp3 : Option Byte
  deriving DecidableEq, Repr

/-- The Call Evaluator. It is EVALUATING exactly when an evaluation is in flight (R64). -/
structure Evaluator where
  inFlight : Option Evaluation
  callQueue : List QueuedCall
  roundRecord : RoundRecord
  dropped : Nat
  congested : Bool
  deriving DecidableEq, Repr

/-! ## The Tally Unit (R138) -/

/-- An entry of the peer table: the TALLY accepted, the time of acceptance and the WITHDRAWN mark
(R141, R142). -/
structure PeerEntry where
  tally : TallyPayload
  acceptedAt : Nat
  withdrawn : Bool
  deriving DecidableEq, Repr

/-- The Tally Unit (R138). The peer table lists its present entries in ascending bay number. -/
structure TallyUnit where
  callNumber : Byte
  ownT : Int
  ownL : Int
  seq : Byte
  lastBuild : Option Nat
  pendingChange : Bool
  peers : List PeerEntry
  deriving DecidableEq, Repr

/-! ## The Deck Line Interface (R150) -/

/-- The line state (R150). -/
inductive LineState where
  | normal | silent
  deriving DecidableEq, Repr

/-- A frame's payload by kind (R163). -/
inductive Payload where
  | call (p : CallPayload)
  | offer (p : OfferPayload)
  | award (p : AwardPayload)
  | decline (p : DeclinePayload)
  | placed (p : PlacedPayload)
  | tally (p : TallyPayload)
  | noticeWithdrawn
  | noticeMissing (p : MissingPayload)
  | portcall (number : Byte)
  deriving DecidableEq, Repr

/-- A queued frame (R150). Its age is the order in which it was handed in. `leaving` marks the frame
whose attempt is on the line and which is removed at the end of it instead of being tried again
(R153, R154). -/
structure QFrame where
  payload : Payload
  callNumber : Byte
  age : Nat
  attempts : Nat
  leaving : Bool
  deriving DecidableEq, Repr

/-- The attempt on the line: the age of the frame carried, and whether a frame of equal class and
source spoils it (R155). -/
structure OnLine where
  age : Nat
  spoiled : Bool
  deriving DecidableEq, Repr

/-- The Deck Line Interface (R150). -/
structure Dli where
  line : LineState
  queue : List QFrame
  failures : Nat
  probeTime : Option Nat
  onLine : Option OnLine
  nextAge : Nat
  deriving DecidableEq, Repr

/-! ## The Round Controller (R81, R101) -/

/-- An offer of the open round's offer list (R81). -/
structure Offer where
  bay : Byte
  deck : Byte
  lane : Byte
  score : Nat
  deriving DecidableEq, Repr

/-- The open round (R81): its id, the deck mask and offer window (ms) its CALL carries, the window
timer (stopped, or its expiry time), and the offer list. The called entry is the waiting entry with
the called mark (R101). -/
structure OpenRound where
  round : RoundId
  deckMask : Byte
  window : Nat
  windowDue : Option Nat
  offers : List Offer
  deriving DecidableEq, Repr

/-- A waiting entry (R101); the CLAMPED mark stands in its arrival record. -/
structure WaitingEntry where
  arrival : Arrival
  attempts : Nat
  notBefore : Option Nat
  called : Bool
  deriving DecidableEq, Repr

/-- A dispatched entry (R101). -/
structure DispatchedEntry where
  round : RoundId
  arrival : Arrival
  attempts : Nat
  deck : Byte
  bay : Byte
  lane : Byte
  deriving DecidableEq, Repr

/-- The Round Controller (R81, R101). It is CALLING exactly when a round is open; `hold` is ASSERTED
when true. -/
structure RoundController where
  seq : Byte
  openRound : Option OpenRound
  waiting : List WaitingEntry
  dispatched : List DispatchedEntry
  hold : Bool
  gradient : Fin 4
  heldAdvance : Bool
  deriving DecidableEq, Repr

/-! ## The Condition Unit (R164) -/

/-- The condition codes (R164). -/
inductive Code where
  | stop | withdrawn | placementBreach | lineSilent | unidentifiedVehicle | misdirected
  | earlyRemoval | overcarried | laneFault | lashUnconfirmed | inboundMissing | configClamped
  deriving DecidableEq, Repr

/-- An entry of the condition list; its level is fixed by its code (R164). -/
structure Condition where
  code : Code
  lane : Option Nat
  count : Nat
  age : Nat
  deriving DecidableEq, Repr

/-! ## The Sensor Line Port (R173) and the Retained Store (R179) -/

/-- The Sensor Line Port: the survey timer's expiry time while a survey is outstanding, the replied
set (kept in LISTEN until the passage to ACTIVE, R182, R183), and the withheld-event count (R176). -/
structure SensorPort where
  surveyDue : Option Nat
  replied : List Nat
  withheld : Nat
  deriving DecidableEq, Repr

/-- What a part of the retained copy holds: no content, a valid copy, or an invalid one (R179). -/
inductive Kept (α : Type) where
  | blank
  | valid (content : α)
  | invalid
  deriving DecidableEq, Repr

/-- A part of the retained copy with its write in flight, if any, holding the contents as they stood
when the write began, and the mark of one further write (R179). -/
structure Part (α : Type) where
  kept : Kept α
  writing : Option α
  further : Bool
  deriving DecidableEq, Repr

/-- A lane copy (R179). -/
structure LaneCopy where
  stored : LaneState
  placed : List Record
  used : Int
  sockets : Nat
  deriving DecidableEq, Repr

/-- The lane copy of one lane number. -/
structure LanePart where
  number : Nat
  part : Part LaneCopy
  deriving DecidableEq, Repr

/-- The node copy's contents (R179). -/
structure NodeCopy where
  callNumber : Byte
  tallySeq : Byte
  roundSeq : Byte
  deriving DecidableEq, Repr

/-- One of the node copy's two slots (R179). -/
inductive Slot where
  | a | b
  deriving DecidableEq, Repr

/-- The node copy: two slots, the slot written later, the slot whose turn is next, and the write in
flight with its slot (R179). -/
structure NodePart where
  slotA : Kept NodeCopy
  slotB : Kept NodeCopy
  later : Slot
  next : Slot
  writing : Option (Slot × NodeCopy)
  further : Bool
  deriving DecidableEq, Repr

/-- The retained stowage copy. `stopped` is set by a configuration write: no further copies are
written until the next start (R178). -/
structure Retained where
  lanes : List LanePart
  inbound : Part (List Inbound)
  node : NodePart
  stopped : Bool
  deriving DecidableEq, Repr

/-! ## The node -/

/-- The node state (R101, R139, R178). -/
inductive NodeState where
  | unconfigured | listen | active | recovery | withdrawn
  deriving DecidableEq, Repr

/-- Whether the node works, has closed for a PANEL RESET and completes its writes, or has its power
back with its start due (R177). -/
inductive Life where
  | running | closing | starting
  deriving DecidableEq, Repr

/-- The role taken at a start (R178). -/
inductive Role where
  | bay | ramp
  deriving DecidableEq, Repr

/-- The configuration as loaded at the start (R178). Times of `awardGrace` and `offerWindow` in ms,
of `travelLimit`, `listenInterval` and `recallDelay` in s. -/
structure Conf where
  role : Role
  nodeNumber : Nat
  rampId : Nat
  deck : Nat
  lanes : List LaneConf
  gap : Int
  tolerance : Int
  unidentifiedWeight : Int
  bayWeightLimit : Int
  scanOrder : List Nat
  mtLim : Int
  mlMin : Int
  mlMax : Int
  baseMT : Int
  baseML : Int
  wF : Int
  wD : Int
  wH : Int
  awardGrace : Nat
  congestHigh : Nat
  congestLow : Nat
  travelLimit : Nat
  lashClass : Nat
  alarmMask : List Nat
  listenInterval : Nat
  offerWindow : Nat
  deckMask : Byte
  attemptLimit : Nat
  recallDelay : Nat
  holdHigh : Nat
  holdLow : Nat
  deriving DecidableEq, Repr

/-! ## Outputs -/

/-- The panel's answer to a command (R19, R114). -/
inductive Answer where
  | taken | refused
  deriving DecidableEq, Repr

/-- A frame as it leaves the node at the start of an attempt (R155, R163). -/
structure Frame where
  source : Byte
  callNumber : Byte
  payload : Payload
  deriving DecidableEq, Repr

/-- The reasons of REFUSED (R102). -/
inductive RefusedReason where
  | noBooking | badKind | tooLong | tooHeavy | badHazard | duplicate | queueFull
  deriving DecidableEq, Repr

/-- The reasons of CANCELLED: the reason code of a DECLINE, or UNSENT (R110). -/
inductive CancelReason where
  | declined (reason : Byte)
  | unsent
  deriving DecidableEq, Repr

/-- The reasons of SHUT OUT (R108, R110). -/
inductive ShutOutReason where
  | noOffer | queueFull
  deriving DecidableEq, Repr

/-- What a disposition says of its booking (R112). -/
inductive Verdict where
  | refused (reason : RefusedReason)
  | awarded (deck : Byte) (bay : Byte) (lane : Byte) (clamped : Bool)
  | stowed (bay : Byte) (lane : Byte) (front : Word16)
  | missing
  | cancelled (reason : CancelReason)
  | shutOut (reason : ShutOutReason)
  deriving DecidableEq, Repr

/-- A disposition (R112). -/
structure Disposition where
  booking : Nat
  verdict : Verdict
  deriving DecidableEq, Repr

/-- What the node has put out on its lines, oldest first: frames carried on the deck line, the number
of frames acknowledged on it (R156), dispositions on the gate line (R112), the number of SURVEYs on
the sensor line (R173), and answers on the panel line (R19). -/
structure Outputs where
  deck : List Frame
  acks : Nat
  gate : List Disposition
  surveys : Nat
  panel : List Answer
  deriving DecidableEq, Repr

/-- A drop of a CALL or of an AWARD, to be reported to the Round Controller (R157). -/
inductive Drop where
  | call (round : RoundId)
  | award (round : RoundId) (bay : Byte)
  deriving DecidableEq, Repr

/-- What the event being taken has to hand on at its end (R18, R82, R157): a restart of the evaluation
in flight, a cause of a TALLY, the lane copies, inbound list copy and node copy to write, a look for
a callable entry, and drops to report. The MODEL's own bookkeeping, clear between commands. -/
structure HandedOn where
  restart : Bool
  tally : Bool
  lanes : List Nat
  inbound : Bool
  node : Bool
  look : Bool
  drops : List Drop
  deriving DecidableEq, Repr

/-- Nothing to hand on. -/
def HandedOn.clear : HandedOn :=
  { restart := false, tally := false, lanes := [], inbound := false, node := false
    look := false, drops := [] }

/-! ## The whole state -/

/-- The state of one LC48 node, and the queue of the commands that wait, first in, first out. -/
structure State where
  /-- the model's clock, in ms (log entry 1) -/
  now : Nat
  /-- the level of the stop line as last found (R169) -/
  stopLine : Bool
  /-- the class on the gradient input as last found (R107) -/
  gradientPin : Fin 4
  life : Life
  node : NodeState
  store : ConfigStore
  conf : Conf
  table : LaneTable
  eval : Evaluator
  tally : TallyUnit
  dli : Dli
  rounds : RoundController
  conditions : List Condition
  sensor : SensorPort
  /-- the listen interval's end while it runs (R181) -/
  listenDue : Option Nat
  retained : Retained
  out : Outputs
  handed : HandedOn
  pending : List Instr
  deriving DecidableEq, Repr

/-- Faults of the block: none. The spec gives every command an effect in every state. -/
inductive Fault where
  deriving DecidableEq, Repr

/-- Refusals of the block. -/
inductive Refusal where
  /-- Raised only by an arm of `exec` that has no meaning yet. Safe. No arm raises it. -/
  | notModelled (mnemonic : String)
  deriving DecidableEq, Repr

/-! ## Reset -/

/-- The configuration in force where none has been loaded (log entry 4). It is replaced at the start. -/
def Conf.blank : Conf :=
  { role := .bay, nodeNumber := 1, rampId := 0, deck := 1, lanes := [], gap := 4, tolerance := 30
    unidentifiedWeight := 250, bayWeightLimit := 60000, scanOrder := [], mtLim := 0, mlMin := 1
    mlMax := 0, baseMT := 0, baseML := 0, wF := 6, wD := 6, wH := 4, awardGrace := 1000
    congestHigh := 4, congestLow := 2, travelLimit := 600, lashClass := 2, alarmMask := []
    listenInterval := 12, offerWindow := 400, deckMask := 1, attemptLimit := 3, recallDelay := 8
    holdHigh := 12, holdLow := 6 }

/-- The Lane Table with nothing in it. -/
def LaneTable.empty : LaneTable := { lanes := [], reservations := [], inbound := [] }

/-- The Call Evaluator after every start, before the congestion state is formed (R64). -/
def Evaluator.idle : Evaluator :=
  { inFlight := none, callQueue := []
    roundRecord := { ramp0 := none, ramp1 := none, ramp2 := none, ramp3 := none }
    dropped := 0, congested := false }

/-- The Tally Unit after a first start with empty lists (R138). -/
def TallyUnit.initial : TallyUnit :=
  { callNumber := 0, ownT := 0, ownL := 0, seq := 0, lastBuild := none, pendingChange := true
    peers := [] }

/-- The DLI after every start (R150). -/
def Dli.initial : Dli :=
  { line := .normal, queue := [], failures := 0, probeTime := none, onLine := none, nextAge := 0 }

/-- The Round Controller after a first start (R81, R101). -/
def RoundController.initial : RoundController :=
  { seq := 0, openRound := none, waiting := [], dispatched := [], hold := false, gradient := 0
    heldAdvance := false }

/-- The Sensor Line Port after every start, before LISTEN requests its survey (R173, R176). -/
def SensorPort.initial : SensorPort := { surveyDue := none, replied := [], withheld := 0 }

/-- A part of the retained copy without content and with no write in flight (R178). -/
def Part.blank (α : Type) : Part α := { kept := .blank, writing := none, further := false }

/-- The node copy without content (R178). -/
def NodePart.blank : NodePart :=
  { slotA := .blank, slotB := .blank, later := .a, next := .a, writing := none, further := false }

/-- The retained stowage copy without content (R24, R178). -/
def Retained.blank : Retained :=
  { lanes := (List.range 8).map fun n => { number := n, part := Part.blank LaneCopy }
    inbound := Part.blank (List Inbound), node := NodePart.blank, stopped := false }

/-- Nothing has been put out on any line. -/
def Outputs.none : Outputs := { deck := [], acks := 0, gate := [], surveys := 0, panel := [] }

/-- The machine right after reset: power has just come to a node that has never been started, whose
configuration store names no role and whose retained copy is without content, with its start due
(log entries 3 and 4). -/
def State.reset : State :=
  { now := 0, stopLine := false, gradientPin := 0, life := .starting, node := .unconfigured
    store := {}, conf := Conf.blank, table := LaneTable.empty, eval := Evaluator.idle
    tally := TallyUnit.initial, dli := Dli.initial, rounds := RoundController.initial
    conditions := [], sensor := SensorPort.initial, listenDue := none, retained := Retained.blank
    out := Outputs.none, handed := HandedOn.clear, pending := [] }

end Sys2Proof.Machine
end

