-- ==== Sys2Proof/Machine/Layout.lean ====
section
/-! DEFINITION. The layouts of R163: the bytes of every frame, message and record the part exchanges,
and the check word that ends each of them. -/

namespace Sys2Proof.Machine

open Sys2Proof

/-! ## Fields of more than one byte, most significant byte first -/

/-- The two bytes of a 16-bit field. -/
def bytes2 (x : Word16) : List Byte := [x.extractLsb' 8 8, x.extractLsb' 0 8]

/-- The three bytes of a 24-bit field. -/
def bytes3 (x : BitVec 24) : List Byte :=
  [x.extractLsb' 16 8, x.extractLsb' 8 8, x.extractLsb' 0 8]

/-- The four bytes of a 32-bit field. -/
def bytes4 (x : BitVec 32) : List Byte :=
  [x.extractLsb' 24 8, x.extractLsb' 16 8, x.extractLsb' 8 8, x.extractLsb' 0 8]

/-- The five bytes of a booking number. -/
def bytes5 (x : BookingWord) : List Byte :=
  [x.extractLsb' 32 8, x.extractLsb' 24 8, x.extractLsb' 16 8, x.extractLsb' 8 8, x.extractLsb' 0 8]

/-! ## The check word -/

/-- One bit of the cyclic check with generator x^16 + x^12 + x^5 + 1 (R163). -/
def crcBit (c : Word16) : Word16 :=
  if c.msb then (c <<< 1) ^^^ 0x1021 else c <<< 1

/-- One byte of the cyclic check, most significant bit first (R163). -/
def crcByte (c : Word16) (b : Byte) : Word16 :=
  crcBit (crcBit (crcBit (crcBit (crcBit (crcBit (crcBit (crcBit
    (c ^^^ (b.setWidth 16 <<< 8)))))))))

/-- The check word over bytes, starting from FFFF, with no inversion at the end (R163). -/
def checkWord (bs : List Byte) : Word16 := bs.foldl crcByte 0xFFFF

/-! ## Payloads -/

/-- The two bytes of a round id (R163). -/
def RoundId.bytes (r : RoundId) : List Byte := [r.ramp, r.seq]

/-- The 16 bytes of an arrival record (R163). -/
def ArrivalWire.bytes (a : ArrivalWire) : List Byte :=
  bytes5 a.booking ++ [a.kind] ++ bytes2 a.length ++ [a.width, a.height] ++ bytes2 a.weight ++
    [a.axle, a.hazard, a.flags, a.rank]

/-- The payload bytes of a CALL (R163). -/
def CallPayload.bytes (p : CallPayload) : List Byte :=
  RoundId.bytes p.round ++ [p.deckMask, p.window] ++ ArrivalWire.bytes p.arrival

/-- The payload bytes of an OFFER (R163). -/
def OfferPayload.bytes (p : OfferPayload) : List Byte :=
  RoundId.bytes p.round ++ [p.bay, p.deck, p.lane] ++ bytes2 p.score

/-- The payload bytes of an AWARD (R163). -/
def AwardPayload.bytes (p : AwardPayload) : List Byte :=
  RoundId.bytes p.round ++ [p.bay, p.lane]

/-- The payload bytes of a DECLINE (R163). -/
def DeclinePayload.bytes (p : DeclinePayload) : List Byte :=
  RoundId.bytes p.round ++ [p.reason]

/-- The payload bytes of a PLACED frame (R163). -/
def PlacedPayload.bytes (p : PlacedPayload) : List Byte :=
  RoundId.bytes p.round ++ bytes5 p.booking ++ [p.bay, p.lane] ++ bytes2 p.front

/-- The payload bytes of a NOTICE of subtype MISSING (R163). -/
def MissingPayload.bytes (p : MissingPayload) : List Byte :=
  [2] ++ RoundId.bytes p.round ++ bytes5 p.booking

/-- The payload bytes of a TALLY (R163). -/
def TallyPayload.bytes (p : TallyPayload) : List Byte :=
  [p.bay, p.callNumber, p.seq, p.nodeState] ++ bytes3 p.weight ++ bytes4 p.mt ++ bytes4 p.ml ++
    [p.vehicles] ++ bytes2 p.freeTotal ++ [p.openLanes, p.congested]

/-- The payload bytes of each kind (R163). -/
def Payload.bytes : Payload → List Byte
  | .call p => CallPayload.bytes p
  | .offer p => OfferPayload.bytes p
  | .award p => AwardPayload.bytes p
  | .decline p => DeclinePayload.bytes p
  | .placed p => PlacedPayload.bytes p
  | .tally p => TallyPayload.bytes p
  | .noticeWithdrawn => [1]
  | .noticeMissing p => MissingPayload.bytes p
  | .portcall n => [n]

/-- The kind byte of each kind (R163). -/
def Payload.kindCode : Payload → Byte
  | .call _ => 1
  | .offer _ => 2
  | .award _ => 3
  | .decline _ => 4
  | .placed _ => 5
  | .tally _ => 6
  | .noticeWithdrawn => 7
  | .noticeMissing _ => 7
  | .portcall _ => 8

/-- The transmit class of each kind (R151). -/
def Payload.cls : Payload → Nat
  | .noticeWithdrawn => 0
  | .noticeMissing _ => 0
  | .portcall _ => 0
  | .award _ => 1
  | .decline _ => 1
  | .offer _ => 2
  | .placed _ => 2
  | .call _ => 3
  | .tally _ => 4

/-- The payload length of each kind (R163). -/
def Payload.length : Payload → Nat
  | .call _ => 20
  | .offer _ => 7
  | .award _ => 4
  | .decline _ => 3
  | .placed _ => 11
  | .tally _ => 20
  | .noticeWithdrawn => 1
  | .noticeMissing _ => 8
  | .portcall _ => 1

/-! ## Frames, messages and records -/

/-- The bytes of a deck line frame before its check word (R163). -/
def Frame.body (f : Frame) : List Byte :=
  [BitVec.ofNat 8 f.payload.cls, f.source, f.payload.kindCode, f.callNumber,
    BitVec.ofNat 8 f.payload.length] ++ f.payload.bytes

/-- The bytes of a deck line frame (R163). -/
def Frame.bytes (f : Frame) : List Byte := f.body ++ bytes2 (checkWord f.body)

/-- The kind byte of a frame received, and the bytes of its payload (R163). -/
def RxHeader.contents (h : RxHeader) (p : Payload) : Byte × List Byte :=
  match h.form with
  | .asRow => (p.kindCode, p.bytes)
  | .other kind payload => (kind, payload)

/-- The bytes over which a receiver forms the check word of a frame received (R163). -/
def receivedBytes (h : RxHeader) (p : Payload) : List Byte :=
  [h.cls, h.source, (RxHeader.contents h p).1, h.callNumber, h.length] ++ (RxHeader.contents h p).2

/-- The bytes before the check word of a message or record received, where the command's row spells `row`
(R162, R163). -/
def RxCheck.contents (row : List Byte) (k : RxCheck) : List Byte :=
  match k.form with
  | .asRow => row
  | .other bytes => bytes

/-- The bytes of a sensor line message with a lane and a measured length, before its check word. -/
def sensorBytes (code : Byte) (lane : Byte) (m : Word16) : List Byte := [code, lane] ++ bytes2 m

/-- The bytes of an ARRIVAL record before its check word (R163). -/
def arrivalBytes (a : ArrivalWire) : List Byte := [1] ++ ArrivalWire.bytes a

/-- The kind code of a disposition (R163). -/
def Verdict.code : Verdict → Byte
  | .refused _ => 1
  | .awarded _ _ _ _ => 2
  | .stowed _ _ _ => 3
  | .missing => 4
  | .cancelled _ => 5
  | .shutOut _ => 6

/-- The reason code of REFUSED (R163). -/
def RefusedReason.code : RefusedReason → Byte
  | .noBooking => 1
  | .badKind => 2
  | .tooLong => 3
  | .tooHeavy => 4
  | .badHazard => 5
  | .duplicate => 6
  | .queueFull => 7

/-- The reason code of CANCELLED (R163). -/
def CancelReason.code : CancelReason → Byte
  | .declined r => r
  | .unsent => 4

/-- The reason code of SHUT OUT (R163). -/
def ShutOutReason.code : ShutOutReason → Byte
  | .noOffer => 1
  | .queueFull => 2

/-- The reason byte of a disposition, 0 for AWARDED, STOWED and MISSING (R163). -/
def Verdict.reason : Verdict → Byte
  | .refused r => r.code
  | .cancelled r => r.code
  | .shutOut r => r.code
  | .awarded _ _ _ _ => 0
  | .stowed _ _ _ => 0
  | .missing => 0

/-- Deck, bay, lane, front distance and flags of a disposition, 0 where the kind carries none (R163). -/
def Verdict.place : Verdict → List Byte
  | .awarded deck bay lane clamped => [deck, bay, lane, 0, 0, if clamped then 1 else 0]
  | .stowed bay lane front => [0, bay, lane] ++ bytes2 front ++ [0]
  | .refused _ => [0, 0, 0, 0, 0, 0]
  | .missing => [0, 0, 0, 0, 0, 0]
  | .cancelled _ => [0, 0, 0, 0, 0, 0]
  | .shutOut _ => [0, 0, 0, 0, 0, 0]

/-- The bytes of a DISPOSITION record before its check word (R163). -/
def Disposition.body (d : Disposition) : List Byte :=
  [2] ++ bytes5 (BitVec.ofNat 40 d.booking) ++ [d.verdict.code, d.verdict.reason] ++ d.verdict.place

/-- The bytes of a DISPOSITION record (R163). -/
def Disposition.bytes (d : Disposition) : List Byte := d.body ++ bytes2 (checkWord d.body)

/-- The bytes of a SURVEY message (R163). -/
def surveyBytes : List Byte := [7] ++ bytes2 (checkWord [7])

/-! ## The reason codes of DECLINE (R163) -/

/-- DECLINE reason NO RESERVATION (R94). -/
def declineNoReservation : Byte := 1
/-- DECLINE reason LANE MISMATCH (R95). -/
def declineLaneMismatch : Byte := 2
/-- DECLINE reason INBOUND FULL (R93). -/
def declineInboundFull : Byte := 3

end Sys2Proof.Machine
end

