-- ==== Sys2Proof/Machine/Operands.lean ====
section
/-! DEFINITION. The operands of the commands as the blocks take them: the arrival record and its
attributes (R25 to R28, R163), decks of a deck mask, the order of round sequences and of call numbers
(R66, R144), and the check words and form of what arrives (R156, R161, R162). -/

namespace Sys2Proof.Machine

open Sys2Proof

/-! ## The arrival record (R25, R163) -/

/-- The kind field of a kind code (R163). -/
def KindField.ofCode (b : Byte) : KindField :=
  if b = 1 then .named .car
  else if b = 2 then .named .van
  else if b = 3 then .named .driven
  else if b = 4 then .named .trailer
  else if b = 5 then .named .oversize
  else .unnamed b

/-- The kind code of a kind field (R163). -/
def KindField.code : KindField → Byte
  | .named .car => 1
  | .named .van => 2
  | .named .driven => 3
  | .named .trailer => 4
  | .named .oversize => 5
  | .unnamed b => b

/-- The kind a field names (R25). -/
def KindField.kind? : KindField → Option VehicleKind
  | .named k => some k
  | .unnamed _ => none

/-- The hazard field of a hazard code (R163). -/
def HazardField.ofCode (b : Byte) : HazardField :=
  if b = 0 then .none
  else if b = 1 then .group .a
  else if b = 2 then .group .b
  else if b = 3 then .group .c
  else if b = 4 then .group .d
  else if b = 5 then .group .e
  else if b = 6 then .group .f
  else .unnamed b

/-- The hazard code of a hazard field (R163). -/
def HazardField.code : HazardField → Byte
  | .none => 0
  | .group .a => 1
  | .group .b => 2
  | .group .c => 3
  | .group .d => 4
  | .group .e => 5
  | .group .f => 6
  | .unnamed b => b

/-- The segregation group a field names (R37). -/
def HazardField.group? : HazardField → Option Group
  | .group g => some g
  | .none => Option.none
  | .unnamed _ => Option.none

/-- An arrival record as read from its 16 bytes (R163). -/
def Arrival.ofWire (w : ArrivalWire) : Arrival :=
  { booking := w.booking.toNat
    kind := KindField.ofCode w.kind
    length := (w.length.toNat : Int)
    width := (w.width.toNat : Int)
    height := (w.height.toNat : Int)
    weight := (w.weight.toNat : Int)
    axle := (w.axle.toNat : Int)
    hazard := HazardField.ofCode w.hazard
    reefer := w.flags.getLsbD 0
    overstow := w.flags.getLsbD 1
    clamped := w.flags.getLsbD 2
    rank := w.rank.toNat }

/-- The flags byte of an arrival record; its other bits are sent as 0 (R163). -/
def Arrival.flagsByte (a : Arrival) : Byte :=
  (if a.reefer then 1 else 0) ||| (if a.overstow then 2 else 0) ||| (if a.clamped then 4 else 0)

/-- An arrival record as written into a CALL (R80, R163). -/
def Arrival.toWire (a : Arrival) : ArrivalWire :=
  { booking := BitVec.ofNat 40 a.booking
    kind := a.kind.code
    length := BitVec.ofInt 16 a.length
    width := BitVec.ofInt 8 a.width
    height := BitVec.ofInt 8 a.height
    weight := BitVec.ofInt 16 a.weight
    axle := BitVec.ofInt 8 a.axle
    hazard := a.hazard.code
    flags := a.flagsByte
    rank := BitVec.ofNat 8 a.rank }

/-- Every field of an arrival record lies in the range R25 gives for it (R26). -/
def Arrival.inRange (a : Arrival) : Bool :=
  decide (1 ≤ a.booking) && decide (a.booking < 2 ^ 40) && a.kind.kind?.isSome &&
  decide (20 ≤ a.length) && decide (a.length ≤ 250) &&
  decide (15 ≤ a.width) && decide (a.width ≤ 45) &&
  decide (10 ≤ a.height) && decide (a.height ≤ 50) &&
  decide (5 ≤ a.weight) && decide (a.weight ≤ 600) &&
  decide (5 ≤ a.axle) && decide (a.axle ≤ 200) &&
  (match a.hazard with
    | .none => true
    | .group _ => true
    | .unnamed _ => false) &&
  decide (1 ≤ a.rank) && decide (a.rank ≤ 15)

/-- A record whose rank a port advance has lowered by one, with a floor at 0 (R11, R147). -/
def Arrival.advance (a : Arrival) : Arrival := { a with rank := a.rank - 1 }

/-- An arrival has an attribute when the attribute's condition holds (R27). -/
def Arrival.has (a : Arrival) : Attr → Bool
  | .car => decide (a.kind = .named .car) || decide (a.kind = .named .van)
  | .unacc => decide (a.kind = .named .trailer)
  | .oversize => decide (a.kind = .named .oversize)
  | .high => decide (43 ≤ a.height)
  | .wide => decide (27 ≤ a.width)
  | .heavy => decide (400 ≤ a.weight)
  | .hazard => a.hazard.group?.isSome
  | .reefer => a.reefer

/-- A lane's acceptance filter accepts an arrival: for every attribute of the care set, the arrival has
it exactly when the match set has it (R28). -/
def LaneConf.accepts (c : LaneConf) (a : Arrival) : Bool :=
  c.careSet.all fun x => a.has x == c.matchSet.contains x

/-! ## Decks, sequences and call numbers -/

/-- A set of decks includes deck `d`: bit d − 1 stands for deck d, 1..6 (R163). -/
def maskHasDeck (mask : Byte) (d : Nat) : Bool :=
  decide (1 ≤ d) && decide (d ≤ 6) && mask.getLsbD (d - 1)

/-- A number leads another when the difference is 1..127 modulo 256 (R66, R141, R145). -/
def leads (x y : Byte) : Bool :=
  decide (1 ≤ (x - y).toNat) && decide ((x - y).toNat ≤ 127)

/-- A number lags another when the difference is 128..255 modulo 256 (R66, R145). -/
def lags (x y : Byte) : Bool := decide (128 ≤ (x - y).toNat)

/-! ## Check words and form -/

/-- The check word of a frame received agrees with the frame (R156, R163). -/
def frameAgrees (h : RxHeader) (p : Payload) : Bool :=
  decide (h.check = checkWord (receivedBytes h p))

/-- What R161 asks of a frame beyond its header: a CALL's offer window code lies in 10..200, and a
TALLY's call number field equals the header's. -/
def Payload.wellFormed (h : RxHeader) : Payload → Bool
  | .call p => decide (10 ≤ p.window.toNat) && decide (p.window.toNat ≤ 200)
  | .tally p => decide (p.callNumber = h.callNumber)
  | .offer _ => true
  | .award _ => true
  | .decline _ => true
  | .placed _ => true
  | .noticeWithdrawn => true
  | .noticeMissing _ => true
  | .portcall _ => true

/-- A source that is a node number: 1..48 or 60..63 (R161). -/
def isNodeSource (b : Byte) : Bool :=
  (decide (1 ≤ b.toNat) && decide (b.toNat ≤ 48)) || (decide (60 ≤ b.toNat) && decide (b.toNat ≤ 63))

/-- A frame is well-formed: its kind, or NOTICE subtype, is one of R163 with a payload of its size, its
class and payload length are those of its kind, its source is a node number, and its payload has the form
R161 asks for. -/
def frameWellFormed (h : RxHeader) (p : Payload) : Bool :=
  decide (h.form = .asRow) && decide (h.cls.toNat = p.cls) && decide (h.length.toNat = p.length) &&
    isNodeSource h.source && p.wellFormed h

/-- A message or record of the sensor or gate line is one to be taken: its check word agrees with the bytes
received, and they are the code and the fields that `row` spells. One with a disagreeing check word, an
unknown code, or a length that is not the length of its code is discarded (R162). -/
def messageAgrees (row : List Byte) (k : RxCheck) : Bool :=
  decide (k.word = checkWord (RxCheck.contents row k)) && decide (k.form = .asRow)

/-- A sensor line message with lane and length is one to be taken (R162, R163). -/
def sensorAgrees (code : Byte) (lane : Byte) (m : Word16) (check : RxCheck) : Bool :=
  messageAgrees (sensorBytes code lane m) check

/-- A sensor line message with a lane is one to be taken (R162, R163). -/
def sensorLaneAgrees (code : Byte) (lane : Byte) (check : RxCheck) : Bool :=
  messageAgrees [code, lane] check

end Sys2Proof.Machine
end

