-- ==== Sys2Proof/Machine/Ops.lean ====
section
/-! DEFINITION. The named operations over the state: one update per field, the roles and node states a
rule asks for, what an event hands on to its end (R18), the outputs, and the access to the lanes of
the Lane Table. The lemmas about them stand in Laws/State.lean and Laws/Ops.lean. -/

namespace Sys2Proof.Machine

open Sys2Proof

/-! ## Updates, one per field -/

/-- `s` with another `now`. -/
def State.setNow (s : State) (v : Nat) : State := { s with now := v }
/-- `s` with another `stopLine`. -/
def State.setStopLine (s : State) (v : Bool) : State := { s with stopLine := v }
/-- `s` with another `gradientPin`. -/
def State.setGradientPin (s : State) (v : Fin 4) : State := { s with gradientPin := v }
/-- `s` with another `life`. -/
def State.setLife (s : State) (v : Life) : State := { s with life := v }
/-- `s` with another `node`. -/
def State.setNode (s : State) (v : NodeState) : State := { s with node := v }
/-- `s` with another `store`. -/
def State.setStore (s : State) (v : ConfigStore) : State := { s with store := v }
/-- `s` with another `conf`. -/
def State.setConf (s : State) (v : Conf) : State := { s with conf := v }
/-- `s` with another `table`. -/
def State.setTable (s : State) (v : LaneTable) : State := { s with table := v }
/-- `s` with another `eval`. -/
def State.setEval (s : State) (v : Evaluator) : State := { s with eval := v }
/-- `s` with another `tally`. -/
def State.setTally (s : State) (v : TallyUnit) : State := { s with tally := v }
/-- `s` with another `dli`. -/
def State.setDli (s : State) (v : Dli) : State := { s with dli := v }
/-- `s` with another `rounds`. -/
def State.setRounds (s : State) (v : RoundController) : State := { s with rounds := v }
/-- `s` with another `conditions`. -/
def State.setConditions (s : State) (v : List Condition) : State := { s with conditions := v }
/-- `s` with another `sensor`. -/
def State.setSensor (s : State) (v : SensorPort) : State := { s with sensor := v }
/-- `s` with another `listenDue`. -/
def State.setListenDue (s : State) (v : Option Nat) : State := { s with listenDue := v }
/-- `s` with another `retained`. -/
def State.setRetained (s : State) (v : Retained) : State := { s with retained := v }
/-- `s` with another `out`. -/
def State.setOut (s : State) (v : Outputs) : State := { s with out := v }
/-- `s` with another `handed`. -/
def State.setHanded (s : State) (v : HandedOn) : State := { s with handed := v }
/-- `s` with another `pending`. -/
def State.setPending (s : State) (v : List Instr) : State := { s with pending := v }

/-! ## Roles and node states -/

/-- The node works and is configured (R150, R177, R178). -/
abbrev State.Configured (s : State) : Prop := s.life = .running ∧ s.node ≠ .unconfigured

/-- A configured bay node (00_scope 2.1). -/
abbrev State.IsBay (s : State) : Prop := s.Configured ∧ s.conf.role = .bay

/-- A configured ramp node (00_scope 2.1). -/
abbrev State.IsRamp (s : State) : Prop := s.Configured ∧ s.conf.role = .ramp

/-- The node number a node sends as its source: the bay number, or 60 + ramp id (00_scope 3.3). -/
def Conf.source (c : Conf) : Byte :=
  match c.role with
  | .bay => BitVec.ofNat 8 c.nodeNumber
  | .ramp => BitVec.ofNat 8 (60 + c.rampId)

/-! ## What an event hands on to its end (R18, R82, R157) -/

/-- Hands on a restart of the evaluation in flight (R18, R72). -/
def State.handRestart (s : State) : State := s.setHanded { s.handed with restart := true }

/-- Hands on a cause of a TALLY (R18, R140). -/
def State.handTally (s : State) : State := s.setHanded { s.handed with tally := true }

/-- Hands on a change of one lane's copy (R18, R179). -/
def State.handLane (n : Nat) (s : State) : State :=
  s.setHanded { s.handed with lanes := s.handed.lanes ++ [n] }

/-- Hands on a change of every lane's copy (R18, R147). -/
def State.handAllLanes (s : State) : State :=
  s.setHanded { s.handed with lanes := s.handed.lanes ++ s.table.lanes.map (·.number) }

/-- Hands on a change of the inbound list copy (R18, R179). -/
def State.handInbound (s : State) : State := s.setHanded { s.handed with inbound := true }

/-- Hands on a change of the node copy's values (R81, R140, R144, R179). -/
def State.handNode (s : State) : State := s.setHanded { s.handed with node := true }

/-- The event is one at which R82 looks for a callable entry (R82, R106). -/
def State.handLook (s : State) : State := s.setHanded { s.handed with look := true }

/-- Hands on drops to be reported to the Round Controller (R152, R157). -/
def State.handDrops (ds : List Drop) (s : State) : State :=
  s.setHanded { s.handed with drops := s.handed.drops ++ ds }

/-! ## The clock (log entry 1) -/

/-- The clock at a timer's event: it has reached the time the timer was set to. -/
def State.reach (due : Nat) (s : State) : State := s.setNow (max s.now due)

/-! ## Outputs -/

/-- Answers a panel command (R19, R114). -/
def State.answer (a : Answer) (s : State) : State :=
  s.setOut { s.out with panel := s.out.panel ++ [a] }

/-- Hands a disposition to the gate line (R112). -/
def State.dispose (booking : Nat) (v : Verdict) (s : State) : State :=
  s.setOut { s.out with gate := s.out.gate ++ [{ booking := booking, verdict := v }] }

/-- Acknowledges a frame on the deck line (R156). -/
def State.acknowledge (s : State) : State := s.setOut { s.out with acks := s.out.acks + 1 }

/-- Puts a frame on the deck line (R155). -/
def State.carry (f : Frame) (s : State) : State :=
  s.setOut { s.out with deck := s.out.deck ++ [f] }

/-! ## Lanes of the Lane Table -/

/-- The lane record of a lane number (R1). -/
def LaneTable.lane? (t : LaneTable) (n : Nat) : Option Lane :=
  t.lanes.find? fun l => decide (l.number = n)

/-- The table with the lane of number `n` changed by `f`. -/
def LaneTable.updateLane (n : Nat) (f : Lane → Lane) (t : LaneTable) : LaneTable :=
  { t with lanes := t.lanes.map fun l => if l.number = n then f l else l }

/-- The state with the lane of number `n` changed by `f`. -/
def State.updateLane (n : Nat) (f : Lane → Lane) (s : State) : State :=
  s.setTable (s.table.updateLane n f)

/-- A lane with another stored state (R2). -/
def Lane.withStored (st : LaneState) (l : Lane) : Lane := { l with stored := st }

/-- A lane without the suspect mark (R3). -/
def Lane.withoutMark (l : Lane) : Lane := { l with suspect := false }

/-- A lane with the suspect mark (R3). -/
def Lane.withMark (l : Lane) : Lane := { l with suspect := true }

/-- The state a lane in FAULT remembers when it replaces a stored state (R2, R74). -/
def LaneState.asRemembered : LaneState → OpenClosed
  | .opened => .opened
  | .closed => .closed
  | .fault r => r

/-- The stored state a FAULT lane returns to (R2). -/
def OpenClosed.asStored : OpenClosed → LaneState
  | .opened => .opened
  | .closed => .closed

/-- A two-mark gate: once set it stays set until the count falls to the low mark or below; once clear
it stays clear until the count reaches the high mark or more (R78, R113). -/
def gate (high low count : Nat) (isSet : Bool) : Bool :=
  if isSet then decide (low < count) else decide (high ≤ count)

end Sys2Proof.Machine
end

