-- ==== Sys2Proof/Machine/Planning.lean ====
section
/-! DEFINITION. The planning list and the lengths of a lane (R15 to R17), the moments of vehicles and the
bay's own sums (R46 to R49), and the ship estimate and the snapshot (R51, R52, R70). -/

namespace Sys2Proof.Machine

open Sys2Proof

/-! ## Records and lanes -/

/-- The length a record takes in its lane: its length and the gap behind it (R9). -/
def Record.extent (gap : Int) (r : Record) : Int := r.length + gap

/-- The length an arrival takes in a lane: L + G (R16). -/
def Arrival.extent (gap : Int) (a : Arrival) : Int := a.length + gap

/-- The sum over placed records of length plus gap (R9). -/
def extentSum (gap : Int) (rs : List Record) : Int :=
  rs.foldr (fun r acc => r.extent gap + acc) 0

/-- The number of records with a granted socket (R10). -/
def grantedCount (rs : List Record) : Nat := rs.countP (·.granted)

/-- A lane as a snapshot holds it (R70). -/
def Lane.snap (l : Lane) : LaneSnap :=
  { number := l.number, conf := l.conf, stored := l.stored, placed := l.placed, used := l.used
    sockets := l.sockets }

/-- The Lane Table as a snapshot holds it (R70). -/
def LaneTable.stowage (t : LaneTable) : Stowage :=
  { lanes := t.lanes.map Lane.snap, reservations := t.reservations, inbound := t.inbound }

/-- A record that is UNIDENTIFIED and has no rank (R17, R22). -/
def Record.rankless (r : Record) : Bool :=
  decide (r.status = .unidentified) && r.rank.isNone

/-! ## The planning list (R15) -/

/-- An item of a planning list (R15). -/
inductive PlanItem where
  | placed (r : Record)
  | inbound (e : Inbound)
  | reserved (r : Reservation)
  deriving DecidableEq, Repr

/-- The inbound entries that name a lane, in award order (R15). -/
def Stowage.inboundOf (st : Stowage) (n : Nat) : List Inbound :=
  st.inbound.filter fun e => decide (e.lane = n)

/-- The reservations that name a lane, in creation order (R15). -/
def Stowage.reservationsOf (st : Stowage) (n : Nat) : List Reservation :=
  st.reservations.filter fun r => decide (r.lane = n)

/-- The planning list of a lane (R15). -/
def Stowage.planningList (st : Stowage) (l : LaneSnap) : List PlanItem :=
  l.placed.map .placed ++ (st.inboundOf l.number).map .inbound ++
    (st.reservationsOf l.number).map .reserved

/-- The planning tail, the last item of the planning list (R15). -/
def Stowage.planningTail (st : Stowage) (l : LaneSnap) : Option PlanItem :=
  (st.planningList l).getLast?

/-- The rank an item supplies (R15, R36). -/
def PlanItem.rank : PlanItem → Option Nat
  | .placed r => r.rank
  | .inbound e => some e.arrival.rank
  | .reserved r => some r.arrival.rank

/-- The hazard group an item supplies (R15, R39). -/
def PlanItem.group : PlanItem → Option Group
  | .placed r => r.hazard
  | .inbound e => e.arrival.hazard.group?
  | .reserved r => r.arrival.hazard.group?

/-- The front distance of an item: actual for a placed record, the stored predicted one for an inbound
entry or reservation (R40). -/
def PlanItem.front : PlanItem → Int
  | .placed r => r.front
  | .inbound e => e.front
  | .reserved r => r.front

/-- The length of an item (R40). -/
def PlanItem.length : PlanItem → Int
  | .placed r => r.length
  | .inbound e => e.arrival.length
  | .reserved r => r.arrival.length

/-! ## Lengths (R16, R17) -/

/-- The planned length P of a lane (R16). -/
def Stowage.planned (st : Stowage) (gap : Int) (l : LaneSnap) : Int :=
  l.used + ((st.inboundOf l.number).map fun e => e.arrival.extent gap).sum +
    ((st.reservationsOf l.number).map fun r => r.arrival.extent gap).sum

/-- The free length of a lane, lane length − P, which may be negative (R16). -/
def Stowage.free (st : Stowage) (gap : Int) (l : LaneSnap) : Int :=
  l.conf.length - st.planned gap l

/-- A lane is held when its planning tail is an UNIDENTIFIED record with no rank (R17). -/
def Stowage.held (st : Stowage) (l : LaneSnap) : Bool :=
  match st.planningTail l with
  | some (.placed r) => r.rankless
  | some (.inbound _) => false
  | some (.reserved _) => false
  | none => false

/-- A lane is full when its placed list holds 24 records, or when its free length is less than 22 dm
(R17). -/
def Stowage.full (st : Stowage) (gap : Int) (l : LaneSnap) : Bool :=
  decide (Config.maxPlaced ≤ l.placed.length) || decide (st.free gap l < Config.fullBelow)

/-- The predicted centre X of a candidate of a given length: Xf − P − (L ÷ 2, rounded down) (R16). -/
def Stowage.predictedCentre (st : Stowage) (gap : Int) (l : LaneSnap) (length : Int) : Int :=
  l.conf.xf - st.planned gap l - length / 2

/-! ## Moments (R46 to R49) -/

/-- conv(v): hundredths of a tonne-metre to whole tonne-metres, to the nearest, halves away from zero
(R46). -/
def conv (v : Int) : Int :=
  if 0 ≤ v then (v + 50) / 100 else -((-v + 50) / 100)

/-- A centre X taken as the arm of a moment: at the nearer limit of −1200..+1200 (R47). -/
def arm (x : Int) : Int := max (-Config.armBound) (min Config.armBound x)

/-- The actual centre of a placed record (R6, R47). -/
def Record.centre (xf : Int) (r : Record) : Int := xf - r.front - r.length / 2

/-- The transverse moment W × Y, in hundredths of a tonne-metre (R48). -/
def momentT (weight y : Int) : Int := weight * y

/-- The longitudinal moment W × X, X taken as an arm (R48). -/
def momentL (weight x : Int) : Int := weight * arm x

/-- A record's transverse moment in a lane (R48, R49). -/
def Record.mT (c : LaneConf) (r : Record) : Int := momentT r.weight c.y

/-- A record's longitudinal moment in a lane, at its actual centre (R48, R49). -/
def Record.mL (c : LaneConf) (r : Record) : Int := momentL r.weight (r.centre c.xf)

/-- The transverse arm of the lane an item names; an entry that names no lane record has none. -/
def LaneTable.armOf (t : LaneTable) (n : Nat) : Int :=
  match t.lane? n with
  | some l => l.conf.y
  | none => 0

/-- An inbound entry's transverse moment, at the Y of the lane it names (R49). -/
def Inbound.mT (t : LaneTable) (e : Inbound) : Int := momentT e.arrival.weight (t.armOf e.lane)

/-- An inbound entry's longitudinal moment, at its stored predicted centre (R49). -/
def Inbound.mL (e : Inbound) : Int := momentL e.arrival.weight e.centre

/-- The sum of mT over the placed records of a lane (R49). -/
def Lane.sumT (l : Lane) : Int := (l.placed.map (Record.mT l.conf)).sum

/-- The sum of mL over the placed records of a lane (R49). -/
def Lane.sumL (l : Lane) : Int := (l.placed.map (Record.mL l.conf)).sum

/-- The exact sum of mT over placed records and inbound entries (R49). -/
def LaneTable.sumT (t : LaneTable) : Int :=
  (t.lanes.map Lane.sumT).sum + (t.inbound.map (Inbound.mT t)).sum

/-- The exact sum of mL over placed records and inbound entries (R49). -/
def LaneTable.sumL (t : LaneTable) : Int :=
  (t.lanes.map Lane.sumL).sum + (t.inbound.map Inbound.mL).sum

/-! ## The ship estimate and the snapshot (R51, R52, R70) -/

/-- A sum held at ±2,000,000,000 (R52). -/
def saturate (v : Int) : Int := max (-Config.estimateBound) (min Config.estimateBound v)

/-- The present peer entries other than that for the node's own bay number (R51, R143). -/
def otherPeers (own : Nat) (ps : List PeerEntry) : List PeerEntry :=
  ps.filter fun p => decide (p.tally.bay.toNat ≠ own)

/-- The ship estimate ST (R51, R52). -/
def State.estimateT (s : State) : Int :=
  saturate (s.conf.baseMT + conv s.tally.ownT +
    ((otherPeers s.conf.nodeNumber s.tally.peers).map fun p => p.tally.mt.toInt).sum)

/-- The ship estimate SL (R51, R52). -/
def State.estimateL (s : State) : Int :=
  saturate (s.conf.baseML + conv s.tally.ownL +
    ((otherPeers s.conf.nodeNumber s.tally.peers).map fun p => p.tally.ml.toInt).sum)

/-- The snapshot of an evaluation start or restart (R70). -/
def State.snapshot (s : State) : Snapshot :=
  { stowage := s.table.stowage, st := s.estimateT, sl := s.estimateL }

/-! ## Segregation (R37, R40) -/

/-- Two segregation groups are separated when the table of R37 names either against the other. -/
def separated : Group → Group → Bool
  | .a, .b => true
  | .a, .c => true
  | .a, .f => true
  | .b, .a => true
  | .b, .c => true
  | .b, .e => true
  | .c, .a => true
  | .c, .b => true
  | .c, .d => true
  | .d, .c => true
  | .d, .f => true
  | .e, .b => true
  | .e, .f => true
  | .f, .a => true
  | .f, .d => true
  | .f, .e => true
  | _, _ => false

/-- Two vehicles are separated when both carry a group and the groups are separated (R37). -/
def separatedGroups : Option Group → Option Group → Bool
  | some g, some h => separated g h
  | _, _ => false

/-- The widened span of an item at `f` with length `li` overlaps the span from `p` with length `l`;
spans that only meet at one point do not overlap (R40). -/
def spansOverlap (f li p l : Int) : Bool :=
  decide (f - Config.segregationDistance < p + l) && decide (p < f + li + Config.segregationDistance)

/-- Two lane numbers are adjacent when they differ by one (R1). -/
def adjacent (n m : Nat) : Bool := decide (n = m + 1) || decide (m = n + 1)

end Sys2Proof.Machine
end

