-- ==== Sys2Proof/Machine/Eligibility.lean ====
section
/-! DEFINITION. The fourteen tests by which a lane is eligible for a call (R29 to R45), and the score and
choice among the eligible lanes (R46 to R61). Every function here reads the configuration, a
snapshot and the call's arrival record, and nothing else (R70). -/

namespace Sys2Proof.Machine

open Sys2Proof

/-! ## Tests 1 to 10, lane by lane -/

/-- Test 1: the stored state is OPEN (R30). -/
def test1 (l : LaneSnap) : Bool := decide (l.stored = .opened)

/-- Test 2: the lane is not held (R31). -/
def test2 (st : Stowage) (l : LaneSnap) : Bool := !(st.held l)

/-- Test 3: the lane is not full (R31). -/
def test3 (st : Stowage) (gap : Int) (l : LaneSnap) : Bool := !(st.full gap l)

/-- Test 4: the planning list holds fewer than 24 items (R31). -/
def test4 (st : Stowage) (l : LaneSnap) : Bool :=
  decide ((st.planningList l).length < Config.maxPlaced)

/-- Test 5: the free length is not less than L + G (R32). -/
def test5 (st : Stowage) (gap : Int) (l : LaneSnap) (a : Arrival) : Bool :=
  decide (a.extent gap ≤ st.free gap l)

/-- Test 6: the lane's acceptance filter accepts the arrival (R33). -/
def test6 (l : LaneSnap) (a : Arrival) : Bool := l.conf.accepts a

/-- Test 7: the arrival's max axle load is not greater than the lane's (R34). -/
def test7 (l : LaneSnap) (a : Arrival) : Bool := decide (a.axle ≤ l.conf.axle)

/-- The sockets a lane has committed (R35). -/
def Stowage.committedSockets (st : Stowage) (l : LaneSnap) : Nat :=
  l.sockets + (st.inboundOf l.number).countP (·.arrival.reefer) +
    (st.reservationsOf l.number).countP (·.arrival.reefer)

/-- Test 8: an arrival with reefer no, or a configured socket that is not committed (R35). -/
def test8 (st : Stowage) (l : LaneSnap) (a : Arrival) : Bool :=
  !a.reefer || decide (st.committedSockets l + 1 ≤ l.conf.sockets)

/-- Test 9 and the order term D: none when the lane fails (R36). A planning tail without a rank makes
the lane held, and test 9 is then decided without effect on the verdict. -/
def orderTerm (st : Stowage) (l : LaneSnap) (a : Arrival) : Option Int :=
  match st.planningTail l with
  | none => some 256
  | some item =>
    match item.rank with
    | none => none
    | some r =>
      if a.rank = r then some 256
      else if a.rank < r then some 128
      else if a.overstow then some 0
      else none

/-- The same-lane segregation test (R39). -/
def sameLaneTest (st : Stowage) (l : LaneSnap) (a : Arrival) : Bool :=
  match st.planningTail l with
  | none => true
  | some item => !(separatedGroups item.group a.hazard.group?)

/-- The adjacent-lane segregation test (R40). -/
def adjacentLaneTest (st : Stowage) (gap : Int) (l : LaneSnap) (a : Arrival) : Bool :=
  (st.lanes.filter fun k => adjacent k.number l.number).all fun k =>
    (st.planningList k).all fun item =>
      !(separatedGroups item.group a.hazard.group? &&
        spansOverlap item.front item.length (st.planned gap l) a.length)

/-- Test 10: both segregation tests (R38). -/
def test10 (st : Stowage) (gap : Int) (l : LaneSnap) (a : Arrival) : Bool :=
  sameLaneTest st l a && adjacentLaneTest st gap l a

/-! ## Tests 11 and 12, for the bay as a whole -/

/-- The bay weight that test 11 counts: placed records, inbound entries and reservations (R41). -/
def Stowage.weight (st : Stowage) : Int :=
  (st.lanes.map fun l => (l.placed.map (·.weight)).sum).sum +
    (st.inbound.map (·.arrival.weight)).sum + (st.reservations.map (·.arrival.weight)).sum

/-- Test 11: the bay weight with the arrival's weight is within the bay weight limit (R41). -/
def test11 (c : Conf) (st : Stowage) (a : Arrival) : Bool :=
  decide (st.weight + a.weight ≤ c.bayWeightLimit)

/-- The booking numbers held in placed records, inbound entries and reservations (R14, R42). -/
def Stowage.bookings (st : Stowage) : List Nat :=
  (st.lanes.flatMap fun l => l.placed.filterMap (·.booking)) ++
    st.inbound.map (·.arrival.booking) ++ st.reservations.map (·.arrival.booking)

/-- Test 12: the arrival's booking is not held in the bay (R42). -/
def test12 (st : Stowage) (a : Arrival) : Bool := !(st.bookings.contains a.booking)

/-! ## Tests 13 and 14 and the candidate moments -/

/-- S′T: the ship's transverse moment with the candidate added (R54). -/
def candidateT (snap : Snapshot) (l : LaneSnap) (a : Arrival) : Int :=
  saturate (snap.st + conv (momentT a.weight l.conf.y))

/-- S′L: the ship's longitudinal moment with the candidate added (R54). -/
def candidateL (snap : Snapshot) (gap : Int) (l : LaneSnap) (a : Arrival) : Int :=
  saturate (snap.sl +
    conv (momentL a.weight (snap.stowage.predictedCentre gap l a.length)))

/-- Test 13: the heel limit, off when it is 0 (R43). -/
def test13 (c : Conf) (sT : Int) : Bool :=
  decide (c.mtLim = 0) || decide ((sT.natAbs : Int) ≤ c.mtLim)

/-- Test 14: the trim window, off when it is inverted (R44, R56). -/
def test14 (c : Conf) (sL : Int) : Bool :=
  decide (c.mlMax < c.mlMin) || (decide (c.mlMin ≤ sL) && decide (sL ≤ c.mlMax))

/-! ## The verdict for a lane (R29, R45) -/

/-- What the choice is handed for an eligible lane (R45). -/
structure LaneVerdict where
  lane : Nat
  order : Int
  free : Int
  sT : Int
  sL : Int
  front : Int
  centre : Int
  deriving DecidableEq, Repr

/-- The tests of a lane but for the bay-wide ones and test 9 (R29). -/
def laneTests (c : Conf) (snap : Snapshot) (l : LaneSnap) (a : Arrival) : Bool :=
  let st := snap.stowage
  test1 l && test2 st l && test3 st c.gap l && test4 st l && test5 st c.gap l a && test6 l a &&
    test7 l a && test8 st l a && test10 st c.gap l a && test13 c (candidateT snap l a) &&
    test14 c (candidateL snap c.gap l a)

/-- The tests that give the same verdict for every lane of the bay: the record is in range (R26), test
11 and test 12 (R29). -/
def bayTests (c : Conf) (st : Stowage) (a : Arrival) : Bool :=
  a.inRange && test11 c st a && test12 st a

/-- A lane's verdict: present when the lane is eligible (R29). -/
def laneVerdict (c : Conf) (snap : Snapshot) (a : Arrival) (l : LaneSnap) : Option LaneVerdict :=
  if bayTests c snap.stowage a && laneTests c snap l a then
    (orderTerm snap.stowage l a).map fun d =>
      { lane := l.number
        order := d
        free := snap.stowage.free c.gap l
        sT := candidateT snap l a
        sL := candidateL snap c.gap l a
        front := snap.stowage.planned c.gap l
        centre := snap.stowage.predictedCentre c.gap l a.length }
  else none

/-! ## Terms and score (R55, R57, R58) -/

/-- The heel term H (R55). -/
def heelTerm (mtLim sT : Int) : Int :=
  if mtLim = 0 then 256 else (256 * (mtLim - (sT.natAbs : Int))) / mtLim

/-- The fit term F (R57). -/
def fitTerm (extent free : Int) : Int := (256 * extent) / free

/-- The weights in use: each taken as 1 when all three are 0 (R58). -/
def scoreWeights (c : Conf) : Int × Int × Int :=
  if c.wF = 0 ∧ c.wD = 0 ∧ c.wH = 0 then (1, 1, 1) else (c.wF, c.wD, c.wH)

/-- The weighted mean of the three terms, rounded down (R58). -/
def weightedScore (w : Int × Int × Int) (f d h : Int) : Int :=
  (w.1 * f + w.2.1 * d + w.2.2 * h) / (w.1 + w.2.1 + w.2.2)

/-- The score of an eligible lane (R58). -/
def score (c : Conf) (a : Arrival) (v : LaneVerdict) : Int :=
  weightedScore (scoreWeights c) (fitTerm (a.extent c.gap) v.free) v.order (heelTerm c.mtLim v.sT)

/-! ## The choice (R60) -/

/-- The lane chosen, its score, and the place the reservation takes from it (R60). -/
structure Choice where
  lane : Nat
  score : Int
  front : Int
  centre : Int
  deriving DecidableEq, Repr

/-- One lane of the examination taken into the choice: it replaces the lane chosen so far only with a
higher score, so that among equals the first met in the scan order stands (R60). -/
def chooseBetter (best : Option Choice) (x : Choice) : Option Choice :=
  match best with
  | none => some x
  | some b => if b.score < x.score then some x else some b

/-- The lanes of the snapshot in scan order (R61, R71). -/
def scanLanes (c : Conf) (st : Stowage) : List LaneSnap :=
  c.scanOrder.filterMap fun n => st.lanes.find? fun l => decide (l.number = n)

/-- The eligible lanes with their scores, in scan order (R71). -/
def candidates (c : Conf) (snap : Snapshot) (a : Arrival) : List Choice :=
  (scanLanes c snap.stowage).filterMap fun l =>
    (laneVerdict c snap a l).map fun v =>
      { lane := v.lane, score := score c a v, front := v.front, centre := v.centre }

/-- The lane the bay chooses, if any is eligible (R60). -/
def chooseLane (c : Conf) (snap : Snapshot) (a : Arrival) : Option Choice :=
  (candidates c snap a).foldl chooseBetter none

end Sys2Proof.Machine
end

