-- ==== Sys2Proof/Machine/Flags.lean ====
section
/-! DEFINITION. The Condition Unit (R164 to R168): the condition list, its raising, merging,
replacement and clearing, and the alarm output; and the flag lists of placed records (R8). -/

namespace Sys2Proof.Machine

open Sys2Proof

/-- The level fixed by a condition's code (R164). -/
def Code.level : Code → Nat
  | .stop => 7
  | .withdrawn => 6
  | .placementBreach => 5
  | .lineSilent => 5
  | .unidentifiedVehicle => 4
  | .misdirected => 4
  | .earlyRemoval => 4
  | .overcarried => 4
  | .laneFault => 3
  | .lashUnconfirmed => 2
  | .inboundMissing => 1
  | .configClamped => 1

/-- The codes that ACK clears (R166). -/
def Code.clearedByAck : Code → Bool
  | .stop => true
  | .placementBreach => true
  | .unidentifiedVehicle => true
  | .misdirected => true
  | .earlyRemoval => true
  | .overcarried => true
  | .inboundMissing => true
  | .configClamped => true
  | .withdrawn => false
  | .lineSilent => false
  | .laneFault => false
  | .lashUnconfirmed => false

/-- The entry has this code and this lane (R164). -/
def Condition.isFor (code : Code) (lane : Option Nat) (c : Condition) : Bool :=
  decide (c.code = code) && decide (c.lane = lane)

/-- An entry into which one more raising is merged (R164). -/
def Condition.merged (c : Condition) : Condition :=
  { c with count := if c.count < Config.maxCount then c.count + 1 else c.count }

/-- The lowest level among the entries (R165). -/
def lowestLevel (cs : List Condition) : Nat :=
  cs.foldl (fun m c => min m c.code.level) 7

/-- The condition list after a raising: merged into the entry of the same code and lane, or added as the
newest, in place of the oldest entry of the lowest level when the list is full, or dropped
(R164, R165). -/
def raiseCondition (now : Nat) (code : Code) (lane : Option Nat) (cs : List Condition) :
    List Condition :=
  if cs.any (Condition.isFor code lane) then
    cs.map fun c => if c.isFor code lane then c.merged else c
  else
    let new : Condition := { code := code, lane := lane, count := 1, age := now }
    if cs.length < Config.maxConditions then cs ++ [new]
    else if lowestLevel cs ≤ code.level then
      cs.eraseP (fun c => decide (c.code.level = lowestLevel cs)) ++ [new]
    else cs

/-- Raises a condition (R164). -/
def State.raise (code : Code) (lane : Option Nat) (s : State) : State :=
  s.setConditions (raiseCondition s.now code lane s.conditions)

/-- Clears a condition: its entry is removed whole, and a cause that finds no entry leaves the list as
it was (R166). -/
def State.clear (code : Code) (lane : Option Nat) (s : State) : State :=
  s.setConditions (s.conditions.eraseP (Condition.isFor code lane))

/-- The unmasked entries (R167). -/
def unmasked (mask : List Nat) (cs : List Condition) : List Condition :=
  cs.filter fun c => !(mask.contains c.code.level)

/-- The highest level among the entries (R167). -/
def highestLevel (cs : List Condition) : Nat :=
  cs.foldl (fun m c => max m c.code.level) 0

/-- The condition shown: the highest-level unmasked pending condition, the oldest among equals
(R167). -/
def shownCondition (mask : List Nat) (cs : List Condition) : Option Condition :=
  (unmasked mask cs).find? fun c =>
    decide (c.code.level = highestLevel (unmasked mask cs))

/-- STOP is pending (R82, R116). -/
def State.stopPending (s : State) : Bool := s.conditions.any (Condition.isFor .stop none)

/-- A flag list with a flag added; a second cause leaves the list unchanged (R8). -/
def addFlag (f : Flag) (fs : List Flag) : List Flag :=
  if fs.contains f then fs else fs ++ [f]

/-- The flags whose presence on a restored record raises PLACEMENT BREACH at a start (R181). -/
def Flag.isBreach : Flag → Bool
  | .overstow => true
  | .segregation => true
  | .axle => true
  | .filter => true
  | .noSocket => true
  | .misdirected => false
  | .overcarried => false
  | .interrupted => false

end Sys2Proof.Machine
end

