-- ==== Sys2Proof/Machine/Line.lean ====
section
/-! DEFINITION. The Deck Line Interface: the transmit queue with its order, eviction and replacement
(R151 to R154), the frames that drops report (R157), and the start of an attempt (R155). -/

namespace Sys2Proof.Machine

open Sys2Proof

/-- The class of a queued frame (R151). -/
def QFrame.cls (f : QFrame) : Nat := f.payload.cls

/-- The payload is a TALLY (R153). -/
def Payload.isTally : Payload → Bool
  | .tally _ => true
  | .call _ => false
  | .offer _ => false
  | .award _ => false
  | .decline _ => false
  | .placed _ => false
  | .noticeWithdrawn => false
  | .noticeMissing _ => false
  | .portcall _ => false

/-- The payload is an OFFER for the round (R90). -/
def Payload.isOfferFor (r : RoundId) : Payload → Bool
  | .offer p => decide (p.round = r)
  | .call _ => false
  | .award _ => false
  | .decline _ => false
  | .placed _ => false
  | .tally _ => false
  | .noticeWithdrawn => false
  | .noticeMissing _ => false
  | .portcall _ => false

/-- The payload is a CALL of the round (R154). -/
def Payload.isCallOf (r : RoundId) : Payload → Bool
  | .call p => decide (p.round = r)
  | .offer _ => false
  | .award _ => false
  | .decline _ => false
  | .placed _ => false
  | .tally _ => false
  | .noticeWithdrawn => false
  | .noticeMissing _ => false
  | .portcall _ => false

/-- The payload is a PORTCALL (R160). -/
def Payload.isPortcall : Payload → Bool
  | .portcall _ => true
  | .call _ => false
  | .offer _ => false
  | .award _ => false
  | .decline _ => false
  | .placed _ => false
  | .tally _ => false
  | .noticeWithdrawn => false
  | .noticeMissing _ => false

/-- The report to the Round Controller that the end of a frame as a drop makes: of a CALL or an AWARD
(R157). -/
def Payload.dropReport : Payload → List Drop
  | .call p => [.call p.round]
  | .award p => [.award p.round p.bay]
  | .offer _ => []
  | .decline _ => []
  | .placed _ => []
  | .tally _ => []
  | .noticeWithdrawn => []
  | .noticeMissing _ => []
  | .portcall _ => []

/-- The frame is the one whose attempt is on the line (R152). -/
def Dli.carries (d : Dli) (f : QFrame) : Bool :=
  match d.onLine with
  | some o => decide (o.age = f.age)
  | none => false

/-- A frame put in at its place: by class, highest first, and within one class by age, oldest first
(R151). -/
def enqueue (f : QFrame) : List QFrame → List QFrame
  | [] => [f]
  | g :: q => if f.cls < g.cls then f :: g :: q else g :: enqueue f q

/-- A frame leaves the queue: removed, or, when its attempt is on the line, marked to be removed at the
end of it (R153, R154). -/
def Dli.takeOut (sel : Payload → Bool) (d : Dli) : Dli :=
  { d with
    queue := d.queue.filterMap fun f =>
      if sel f.payload then (if d.carries f then some { f with leaving := true } else none)
      else some f }

/-- The queued frames that a new frame is compared with: all but the one whose attempt is on the line
(R152). -/
def Dli.others (d : Dli) : List QFrame := d.queue.filter fun f => !(d.carries f)

/-- The queue holds a TALLY that a newer one replaces (R153): one that is to be sent. A TALLY already replaced,
which only waits for the end of its attempt, is not replaced again, so that where it is the only one (its
replacement has since been evicted) a TALLY handed in needs room like any frame. R152 and R153 leave this
case open: it is the model's DESIGN CHOICE (log entry 33). -/
def Dli.holdsTally (d : Dli) : Bool := d.queue.any fun f => f.payload.isTally && !f.leaving

/-- A frame as it is handed in: with the call number in force and an attempt count of 0 (R150, R151). -/
def Dli.newFrame (d : Dli) (callNumber : Byte) (p : Payload) : QFrame :=
  { payload := p, callNumber := callNumber, age := d.nextAge, attempts := 0, leaving := false }

/-- The DLI with a frame put into its queue. -/
def Dli.put (f : QFrame) (d : Dli) : Dli :=
  { d with queue := enqueue f d.queue, nextAge := d.nextAge + 1 }

/-- A frame handed in while the queue holds 8 frames: it is refused when its class is lower than the
lowest class among the others, and otherwise the newest of the others' lowest class, the last of
them in the queue's order, is evicted for it (R152). With the DLI comes the report of the drop. -/
def Dli.handInFull (f : QFrame) (d : Dli) : Dli × List Drop :=
  match d.others.getLast? with
  | none => (d, f.payload.dropReport)
  | some victim =>
    if victim.cls < f.cls then (d, f.payload.dropReport)
    else
      (Dli.put f { d with queue := d.queue.filter fun g => decide (g.age ≠ victim.age) },
        victim.payload.dropReport)

/-- A frame handed in in NORMAL (R151, R152, R153). -/
def Dli.handInNormal (callNumber : Byte) (p : Payload) (d : Dli) : Dli × List Drop :=
  let f := d.newFrame callNumber p
  if p.isTally && d.holdsTally then
    (Dli.put f (d.takeOut Payload.isTally), [])
  else if d.queue.length < Config.maxQueued then (d.put f, [])
  else d.handInFull f

/-- Hands a frame to the DLI. In SILENT it is discarded at once; a CALL or AWARD so discarded, refused
or evicted is reported as a drop (R151, R152, R157, R160). -/
def State.handIn (p : Payload) (s : State) : State :=
  match s.dli.line with
  | .silent => s.handDrops p.dropReport
  | .normal =>
    let r := s.dli.handInNormal s.tally.callNumber p
    (s.setDli r.1).handDrops r.2

/-- Removes the OFFER for a round that waits in the queue (R90, R154). -/
def State.removeOffer (r : RoundId) (s : State) : State :=
  s.setDli (s.dli.takeOut (Payload.isOfferFor r))

/-- Removes the CALL of an abandoned round (R116, R154). -/
def State.removeCall (r : RoundId) (s : State) : State :=
  s.setDli (s.dli.takeOut (Payload.isCallOf r))

/-- A probe enters the queue, in place of a probe still in it (R160). -/
def State.enqueueProbe (p : Payload) (s : State) : State :=
  let d := s.dli.takeOut fun q => q.isTally || q.isPortcall
  s.setDli (d.put (d.newFrame s.tally.callNumber p))

/-! ## The start of an attempt (R154, R155) -/

/-- The queue from its first frame that is no OFFER without a held reservation: such OFFERs are removed
as they reach the head (R154). -/
def dropDeadOffers (held : List RoundId) : List QFrame → List QFrame
  | [] => []
  | f :: q =>
    match f.payload with
    | .offer p => if held.contains p.round then f :: q else dropDeadOffers held q
    | .call _ => f :: q
    | .award _ => f :: q
    | .decline _ => f :: q
    | .placed _ => f :: q
    | .tally _ => f :: q
    | .noticeWithdrawn => f :: q
    | .noticeMissing _ => f :: q
    | .portcall _ => f :: q

/-- A rival's frame is carried before this one: a higher class, or an equal class and a lower source
(R155). -/
def Rival.beats (cls source : Nat) (r : Rival) : Bool :=
  decide (r.cls < cls) || (decide (r.cls = cls) && decide (r.source < source))

/-- A rival's frame has the same class and source, so that the line cannot tell the two apart (R155). -/
def Rival.ties (cls source : Nat) (r : Rival) : Bool :=
  decide (r.cls = cls) && decide (r.source = source)

/-- TRANSMIT_START: the line is free, and the first frame of the queue is started against the frames that
other nodes start (R154, R155). -/
def State.startAttempt (rivals : List Rival) (s : State) : State :=
  match s.dli.onLine with
  | some _ => s
  | none =>
    let q := dropDeadOffers (s.table.reservations.map (·.round)) s.dli.queue
    match q with
    | [] => s.setDli { s.dli with queue := q }
    | f :: _ =>
      if rivals.any (Rival.beats f.cls s.conf.source.toNat) then
        s.setDli { s.dli with queue := q }
      else
        (s.setDli { s.dli with
          queue := q
          onLine := some
            { age := f.age, spoiled := rivals.any (Rival.ties f.cls s.conf.source.toNat) } }).carry
          { source := s.conf.source, callNumber := f.callNumber, payload := f.payload }

end Sys2Proof.Machine
end

