-- ==== Sys2Proof/Machine/Tally.lean ====
section
/-! DEFINITION. The Tally Unit: the building of TALLYs (R139, R140), their acceptance into the peer table
(R141, R142), and the call number with its port advances and catch-up (R144 to R148). -/

namespace Sys2Proof.Machine

open Sys2Proof

/-! ## Building a TALLY (R50, R139, R140) -/

/-- The node state code of a TALLY (R163). -/
def NodeState.code : NodeState → Byte
  | .unconfigured => 0
  | .listen => 1
  | .active => 2
  | .recovery => 3
  | .withdrawn => 4

/-- The bay weight a TALLY reports: placed records and inbound entries (R50). -/
def LaneTable.tallyWeight (t : LaneTable) : Int :=
  (t.lanes.map fun l => (l.placed.map (·.weight)).sum).sum + (t.inbound.map (·.arrival.weight)).sum

/-- The number of placed records and inbound entries (R139). -/
def LaneTable.vehicles (t : LaneTable) : Nat :=
  (t.lanes.map fun l => l.placed.length).sum + t.inbound.length

/-- The sum over the OPEN lanes of the free length, a negative one counting as 0 (R139). -/
def LaneTable.freeTotal (gap : Int) (t : LaneTable) : Int :=
  ((t.lanes.filter fun l => decide (l.stored = .opened)).map fun l =>
    max 0 (t.stowage.free gap l.snap)).sum

/-- The number of OPEN lanes (R139). -/
def LaneTable.openLanes (t : LaneTable) : Nat :=
  t.lanes.countP fun l => decide (l.stored = .opened)

/-- The fields of a TALLY built with sequence `seq` from the state as it stands (R139). -/
def State.tallyPayload (seq : Byte) (s : State) : TallyPayload :=
  { bay := BitVec.ofNat 8 s.conf.nodeNumber
    callNumber := s.tally.callNumber
    seq := seq
    nodeState := s.node.code
    weight := BitVec.ofInt 24 s.table.tallyWeight
    mt := BitVec.ofInt 32 (conv s.tally.ownT)
    ml := BitVec.ofInt 32 (conv s.tally.ownL)
    vehicles := BitVec.ofNat 8 s.table.vehicles
    freeTotal := BitVec.ofInt 16 (s.table.freeTotal s.conf.gap)
    openLanes := BitVec.ofNat 8 s.table.openLanes
    congested := if s.eval.congested then 1 else 0 }

/-- What every build of a TALLY does to the Tally Unit: the sequence is raised by one, the last build
time set, and the pending change removed (R140). -/
def State.countBuild (s : State) : State :=
  (s.setTally { s.tally with
    seq := s.tally.seq + 1, lastBuild := some s.now, pendingChange := false }).handNode

/-- Builds a TALLY and hands it to the DLI (R139, R140). -/
def State.buildTally (s : State) : State :=
  let s := s.countBuild
  s.handIn (.tally (s.tallyPayload s.tally.seq))

/-- Builds a probe TALLY and puts it into the queue (R140, R160). -/
def State.buildProbeTally (s : State) : State :=
  let s := s.countBuild
  s.enqueueProbe (.tally (s.tallyPayload s.tally.seq))

/-- The spacing since the last build is over (R140). -/
def State.spacingOver (s : State) : Bool :=
  match s.tally.lastBuild with
  | none => true
  | some t => decide (t + Config.tallySpacing ≤ s.now)

/-- A cause of a TALLY: it is built at once when the line state is NORMAL and the spacing is over, and
otherwise the pending change is set (R140). -/
def State.causeTally (s : State) : State :=
  if s.dli.line = .normal ∧ s.spacingOver = true then s.buildTally
  else s.setTally { s.tally with pendingChange := true }

/-! ## The peer table (R141, R142) -/

/-- The node state code of a TALLY names LISTEN (R141). -/
def TallyPayload.fromListen (p : TallyPayload) : Bool := decide (p.nodeState = 1)

/-- The entry an accepted TALLY makes (R141, R142). -/
def TallyPayload.entry (now : Nat) (p : TallyPayload) : PeerEntry :=
  { tally := p, acceptedAt := now, withdrawn := decide (p.nodeState = 4) }

/-- The peer table's entry for a bay number (R138). -/
def peer? (bay : Byte) (ps : List PeerEntry) : Option PeerEntry :=
  ps.find? fun e => decide (e.tally.bay = bay)

/-- The peer table with an entry put in for its bay number, in ascending bay number. -/
def putPeer (e : PeerEntry) : List PeerEntry → List PeerEntry
  | [] => [e]
  | f :: ps =>
    if e.tally.bay = f.tally.bay then e :: ps
    else if e.tally.bay.toNat < f.tally.bay.toNat then e :: f :: ps
    else f :: putPeer e ps

/-- A TALLY is accepted: no entry is present, it comes from a bay in LISTEN, or its sequence is newer
than the one held (R141). -/
def acceptsTally (p : TallyPayload) (ps : List PeerEntry) : Bool :=
  match peer? p.bay ps with
  | none => true
  | some e => TallyPayload.fromListen p || leads p.seq e.tally.seq

/-- A TALLY taken into the peer table of a bay, after the catch-up (R141). -/
def State.takeTally (source : Byte) (p : TallyPayload) (s : State) : State :=
  if 1 ≤ p.bay.toNat ∧ p.bay.toNat ≤ 48 ∧ p.bay = source ∧ acceptsTally p s.tally.peers = true then
    s.setTally { s.tally with peers := putPeer (TallyPayload.entry s.now p) s.tally.peers }
  else s

/-- A NOTICE WITHDRAWN sets the mark of the sender's present entry (R142). -/
def State.markWithdrawn (source : Byte) (s : State) : State :=
  s.setTally { s.tally with
    peers := s.tally.peers.map fun e =>
      if e.tally.bay = source then { e with withdrawn := true } else e }

/-- An entry is stale when its age exceeds 30 s (R142). -/
def PeerEntry.stale (now : Nat) (e : PeerEntry) : Bool :=
  decide (e.acceptedAt + Config.staleAge < now)

/-! ## Port advances and catch-up (R144 to R148) -/

/-- A placed record through one port advance: its rank falls by one, and at rank 0 it is flagged
OVERCARRIED instead (R147). -/
def Record.advance (r : Record) : Record :=
  match r.rank with
  | none => r
  | some 0 => { r with flags := addFlag .overcarried r.flags }
  | some (n + 1) => { r with rank := some n }

/-- A record that a port advance finds at rank 0 (R147). -/
def Record.overcarriedNow (r : Record) : Bool := decide (r.rank = some 0)

/-- The Lane Table through one port advance (R147). -/
def LaneTable.advance (t : LaneTable) : LaneTable :=
  { lanes := t.lanes.map fun l => { l with placed := l.placed.map Record.advance }
    reservations := t.reservations.map fun r => { r with arrival := r.arrival.advance }
    inbound := t.inbound.map fun e => { e with arrival := e.arrival.advance } }

/-- A queued CALL through one port advance (R147). -/
def QueuedCall.advance (c : QueuedCall) : QueuedCall := { c with arrival := c.arrival.advance }

/-- The Call Evaluator through one port advance: the CALLs queued and in flight (R147). -/
def Evaluator.advance (e : Evaluator) : Evaluator :=
  { e with
    callQueue := e.callQueue.map QueuedCall.advance
    inFlight := e.inFlight.map fun v => { v with call := v.call.advance } }

/-- The lanes at which one port advance raises OVERCARRIED, one for each record it finds at rank 0
(R147). The order is the model's DESIGN CHOICE, as R147 gives none: the lanes in ascending number, each
from its far end, record by record (log entry 32). -/
def LaneTable.overcarriedLanes (t : LaneTable) : List Nat :=
  t.lanes.flatMap fun l => (l.placed.filter Record.overcarriedNow).map fun _ => l.number

/-- One port advance at a bay node (R147). -/
def State.portAdvance (s : State) : State :=
  let raised := s.table.overcarriedLanes.foldl (fun st n => st.raise .overcarried (some n)) s
  (raised.setTable s.table.advance).setEval s.eval.advance

/-- `d` port advances in turn (R148). -/
def State.portAdvances : Nat → State → State
  | 0, s => s
  | d + 1, s => (s.portAdvance).portAdvances d

/-- The catch-up of a frame with call number `c`: a leading frame raises the node's call number to it, at
a bay with the port advances this calls for, handed on as one change (R145, R148). -/
def State.catchUp (c : Byte) (s : State) : State :=
  if leads c s.tally.callNumber then
    let d := (c - s.tally.callNumber).toNat
    let advanced :=
      match s.conf.role with
      | .bay => (s.portAdvances d).handRestart.handAllLanes.handInbound
      | .ramp => s
    (advanced.setTally { advanced.tally with callNumber := c }).handNode
  else s

end Sys2Proof.Machine
end

