-- ==== Sys2Proof/Machine/Evaluator.lean ====
section
/-! DEFINITION. The Call Evaluator of a bay: the call queue and its admission (R64 to R68), the evaluation
in flight with its starts, restarts, completion, cut-off and abandonment (R69 to R77), the congestion
gate (R78, R79), and the endings of reservations (R89, R90). -/

namespace Sys2Proof.Machine

open Sys2Proof

/-! ## The evaluation in flight (R69, R72, R77) -/

/-- The queue from its first CALL whose deadline has not passed; CALLs whose deadline has passed are
discarded as they reach the head (R69). -/
def liveCalls (now : Nat) (q : List QueuedCall) : List QueuedCall :=
  q.dropWhile fun c => decide (c.deadline ≤ now)

/-- An IDLE evaluator takes the next CALL: it forms the snapshot and passes to EVALUATING, or rests in
IDLE with an empty queue (R64, R69, R70). -/
def State.takeNextCall (s : State) : State :=
  match s.eval.inFlight with
  | some _ => s
  | none =>
    match liveCalls s.now s.eval.callQueue with
    | [] => s.setEval { s.eval with callQueue := [] }
    | c :: rest =>
      (s.setEval { s.eval with
        callQueue := rest
        inFlight := some { call := c, snapshot := s.snapshot, restarts := 0 } }).setHanded
          { s.handed with restart := false }

/-- A restart of the evaluation in flight: a new snapshot, the same CALL and deadline (R72). -/
def State.restartEvaluation (s : State) : State :=
  match s.eval.inFlight with
  | none => s
  | some v =>
    s.setEval { s.eval with
      inFlight := some { v with snapshot := s.snapshot, restarts := v.restarts + 1 } }

/-- The restart handed on so far is made at once, and is the event's one restart unless a later change
asks for another (R72). -/
def State.settleRestart (s : State) : State :=
  if s.handed.restart then s.restartEvaluation.setHanded { s.handed with restart := false } else s

/-- The evaluation in flight ends: its snapshot and examination are discarded (R73, R75, R77). -/
def State.endEvaluation (s : State) : State := s.setEval { s.eval with inFlight := none }

/-- The evaluation in flight is abandoned and the call queue emptied (R77). -/
def State.abandonAll (s : State) : State :=
  s.setEval { s.eval with inFlight := none, callQueue := [] }

/-! ## Releases (R89, R90) -/

/-- Releases the reservation of a round, if one is held, with its queued OFFER (R89, R90, R18). -/
def State.releaseRound (r : RoundId) (s : State) : State :=
  if s.table.reservations.any fun x => decide (x.round = r) then
    ((s.setTable { s.table with
      reservations := s.table.reservations.filter fun x => decide (x.round ≠ r) }).removeOffer
        r).handRestart
  else s

/-- Releases every reservation the bay holds (R170, R172, R159). -/
def State.releaseAll (s : State) : State :=
  (s.table.reservations.map (·.round)).foldl (fun st r => st.releaseRound r) s

/-! ## Congestion (R78, R79) -/

/-- The congestion state follows the inbound count. On a change to CONGESTED the evaluation is abandoned
and the call queue emptied; each change is a cause of a TALLY (R78, R79). -/
def State.followCongestion (s : State) : State :=
  let new := gate s.conf.congestHigh s.conf.congestLow s.table.inbound.length s.eval.congested
  if new = s.eval.congested then s
  else if new then
    (s.setEval { s.eval with inFlight := none, callQueue := [], congested := true }).handTally
  else (s.setEval { s.eval with congested := false }).handTally

/-! ## The round record (R66) -/

/-- The round record's entry for a ramp id; there is none for a number that is no ramp id (R64). -/
def RoundRecord.entry (rr : RoundRecord) (ramp : Byte) : Option Byte :=
  if ramp = 0 then rr.ramp0
  else if ramp = 1 then rr.ramp1
  else if ramp = 2 then rr.ramp2
  else if ramp = 3 then rr.ramp3
  else none

/-- The round record with the entry for a ramp id set (R66). -/
def RoundRecord.set (rr : RoundRecord) (ramp seq : Byte) : RoundRecord :=
  if ramp = 0 then { rr with ramp0 := some seq }
  else if ramp = 1 then { rr with ramp1 := some seq }
  else if ramp = 2 then { rr with ramp2 := some seq }
  else if ramp = 3 then { rr with ramp3 := some seq }
  else rr

/-- A round id of some ramp: ramp id 0..3 (R80). -/
def isRampId (ramp : Byte) : Bool := decide (ramp.toNat ≤ 3)

/-- The round is new to the bay (R66). A round id whose ramp id is none of 0..3 is no round id, and its
CALL is rejected (log entry 14). -/
def RoundRecord.isNew (rr : RoundRecord) (r : RoundId) : Bool :=
  isRampId r.ramp &&
    match rr.entry r.ramp with
    | none => true
    | some e => leads r.seq e

/-- An item's round is an older round of the ramp of `r` (R67). -/
def olderRound (r x : RoundId) : Bool := decide (x.ramp = r.ramp) && lags x.seq r.seq

/-! ## Admission (R65, R67, R68) -/

/-- Cases 1 to 5 of R65, in which a CALL is turned away whatever the round record says. -/
def State.turnsAway (callNumber : Byte) (deckMask : Byte) (s : State) : Bool :=
  decide (s.node ≠ .active) || decide (s.dli.line = .silent) || s.eval.congested ||
    !(maskHasDeck deckMask s.conf.deck) || lags callNumber s.tally.callNumber

/-- What admitting a CALL of a round does to the older rounds of its ramp (R67). -/
def State.closeOlderRounds (r : RoundId) (s : State) : State :=
  let s := ((s.table.reservations.map (·.round)).filter (olderRound r)).foldl
    (fun st x => st.releaseRound x) s
  let s := s.setEval { s.eval with
    callQueue := s.eval.callQueue.filter fun c => !(olderRound r c.round) }
  match s.eval.inFlight with
  | none => s
  | some v => if olderRound r v.call.round then s.endEvaluation.takeNextCall else s

/-- A CALL as it is admitted: its receipt time is the time of its delivery, and its deadline half its
offer window later (R68). -/
def CallPayload.queued (now : Nat) (callNumber : Byte) (p : CallPayload) : QueuedCall :=
  { round := p.round
    callNumber := callNumber
    deckMask := p.deckMask
    window := 10 * p.window.toNat
    arrival := Arrival.ofWire p.arrival
    receipt := now
    deadline := now + 10 * p.window.toNat / 2 }

/-- The admitted CALL is queued, or dropped and counted when the queue holds 4 (R68). -/
def State.queueCall (c : QueuedCall) (s : State) : State :=
  if s.eval.callQueue.length < Config.maxCalls then
    (s.setEval { s.eval with callQueue := s.eval.callQueue ++ [c] }).takeNextCall
  else
    s.setEval { s.eval with
      dropped := if s.eval.dropped < Config.maxCount then s.eval.dropped + 1 else s.eval.dropped }

/-- A CALL taken at a bay, after the catch-up (R65). -/
def State.takeCall (callNumber : Byte) (p : CallPayload) (s : State) : State :=
  if s.eval.roundRecord.isNew p.round then
    let known := s.setEval { s.eval with
      roundRecord := s.eval.roundRecord.set p.round.ramp p.round.seq }
    if s.turnsAway callNumber p.deckMask then known
    else (known.closeOlderRounds p.round).queueCall (CallPayload.queued s.now callNumber p)
  else s

/-! ## Completion (R74, R75, R76) -/

/-- The deferred fault of the chosen lane, before its restart (R74). -/
def State.deferFault (n : Nat) (s : State) : State :=
  (((s.updateLane n fun l =>
    { l with stored := .fault l.stored.asRemembered, suspect := false }).raise
      .laneFault (some n)).handTally.handLane n).restartEvaluation

/-- The reservation created for a CALL at completion (R76). -/
def QueuedCall.reservation (c : QueuedCall) (x : Choice) (grace : Nat) : Reservation :=
  { round := c.round
    lane := x.lane
    arrival := c.arrival
    front := x.front
    centre := x.centre
    expiry := c.receipt + c.window + grace }

/-- The OFFER queued with a reservation (R76, R80). -/
def State.offerPayload (c : QueuedCall) (x : Choice) (s : State) : OfferPayload :=
  { round := c.round
    bay := BitVec.ofNat 8 s.conf.nodeNumber
    deck := BitVec.ofNat 8 s.conf.deck
    lane := BitVec.ofNat 8 x.lane
    score := BitVec.ofInt 16 x.score }

/-- Creates the reservation and queues the OFFER (R76). -/
def State.reserve (c : QueuedCall) (x : Choice) (s : State) : State :=
  ((s.setTable { s.table with
    reservations := s.table.reservations ++ [c.reservation x s.conf.awardGrace] }).handRestart).handIn
      (.offer (s.offerPayload c x))

/-- The lane carries the suspect mark in the Lane Table (R74). -/
def LaneTable.isSuspect (t : LaneTable) (n : Nat) : Bool :=
  match t.lane? n with
  | some l => l.suspect
  | none => false

/-- The completion of an evaluation (R74, R75). -/
def State.completeEvaluation (v : Evaluation) (s : State) : State :=
  match chooseLane s.conf v.snapshot v.call.arrival with
  | none => s.endEvaluation.takeNextCall
  | some x =>
    if Config.maxReservations ≤ s.table.reservations.length then s.endEvaluation.takeNextCall
    else if s.table.isSuspect x.lane then s.deferFault x.lane
    else ((s.reserve v.call x).endEvaluation).takeNextCall

end Sys2Proof.Machine
end

