-- ==== Sys2Proof/Machine/Placement.lean ====
section
/-! DEFINITION. The Placement Unit of a bay and the reconciliation of surveys: conversion of a
reservation (R92), matching and placing of entering vehicles (R121 to R130), removal of vehicles
(R134 to R136), the survey's LEVEL (R174), and RECOVERY and WITHDRAWN (R172, R175). -/

namespace Sys2Proof.Machine

open Sys2Proof

/-! ## Inbound entries (R49, R92, R119) -/

/-- An inbound entry appended, with its moments taken into the own sums (R49, R92). -/
def State.addInbound (e : Inbound) (s : State) : State :=
  (s.setTally { s.tally with
    ownT := s.tally.ownT + e.mT s.table, ownL := s.tally.ownL + e.mL }).setTable
      { s.table with inbound := s.table.inbound ++ [e] }

/-- An inbound entry removed, its moments leaving the own sums; the entries behind it keep their order
(R49, R119, R125). -/
def State.removeInbound (e : Inbound) (s : State) : State :=
  (s.setTally { s.tally with
    ownT := s.tally.ownT - e.mT s.table, ownL := s.tally.ownL - e.mL }).setTable
      { s.table with inbound := s.table.inbound.erase e }

/-- The inbound entry a reservation becomes (R92). -/
def Reservation.entry (due : Nat) (r : Reservation) : Inbound :=
  { round := r.round, lane := r.lane, arrival := r.arrival, front := r.front, centre := r.centre
    travelDue := some due, interrupted := false }

/-- The conversion of a reservation to an inbound entry (R92). -/
def State.convert (r : Reservation) (s : State) : State :=
  let s := s.setTable { s.table with reservations := s.table.reservations.erase r }
  let s := s.addInbound (r.entry (s.now + 1000 * s.conf.travelLimit))
  (((s.handRestart).handTally).handInbound).followCongestion

/-! ## Placed records (R5, R9, R10, R49) -/

/-- A lane with a record appended at the tail (R5, R9, R10). -/
def Lane.append (gap : Int) (r : Record) (l : Lane) : Lane :=
  { l with
    placed := l.placed ++ [r]
    used := l.used + r.extent gap
    sockets := if r.granted then l.sockets + 1 else l.sockets }

/-- A lane with its physical tail `r` removed (R5, R9, R10, R134). -/
def Lane.removeTail (gap : Int) (r : Record) (l : Lane) : Lane :=
  { l with
    placed := l.placed.dropLast
    used := l.used - r.extent gap
    sockets := if r.granted then l.sockets - 1 else l.sockets }

/-- A record appended to a lane of the bay, its moments taken into the own sums, handed on (R18, R49). -/
def State.placeRecord (l : Lane) (r : Record) (s : State) : State :=
  ((((s.setTally { s.tally with
    ownT := s.tally.ownT + r.mT l.conf, ownL := s.tally.ownL + r.mL l.conf }).updateLane l.number
      (Lane.append s.conf.gap r)).handRestart).handTally).handLane l.number

/-- The physical tail of a lane removed, its moments leaving the own sums, handed on (R18, R49, R134). -/
def State.removeRecord (l : Lane) (r : Record) (s : State) : State :=
  ((((s.setTally { s.tally with
    ownT := s.tally.ownT - r.mT l.conf, ownL := s.tally.ownL - r.mL l.conf }).updateLane l.number
      (Lane.removeTail s.conf.gap r)).handRestart).handTally).handLane l.number

/-- The UNIDENTIFIED record of R124, of a given length at a given front distance. -/
def unidentified (weight length front : Int) : Record :=
  { booking := none, kind := none, length := length, weight := weight, axle := none
    hazard := none, reefer := false, granted := false, rank := none, front := front
    status := .unidentified, flags := [], round := none, lashDue := none }

/-- An unexpected vehicle recorded in a lane, with UNIDENTIFIED VEHICLE raised (R124, R174). -/
def State.placeUnidentified (l : Lane) (length : Int) (s : State) : State :=
  (s.placeRecord l (unidentified s.conf.unidentifiedWeight length l.used)).raise
    .unidentifiedVehicle (some l.number)

/-! ## Inconsistency, RECOVERY and WITHDRAWN (R172, R175, R182) -/

/-- A SURVEY handed to the sensor line, with the survey outstanding, no lane replied and the timer
started; none is sent while one is outstanding (R172, R173). -/
def State.requestSurvey (s : State) : State :=
  match s.sensor.surveyDue with
  | some _ => s
  | none =>
    (s.setSensor { s.sensor with
      surveyDue := some (s.now + Config.surveyTime), replied := [] }).setOut
        { s.out with surveys := s.out.surveys + 1 }

/-- The survey is closed and its timer stopped (R173). -/
def State.closeSurvey (s : State) : State := s.setSensor { s.sensor with surveyDue := none }

/-- The passage from ACTIVE to RECOVERY (R172). -/
def State.enterRecovery (s : State) : State :=
  ((((s.setNode .recovery).abandonAll).releaseAll).requestSurvey).handTally

/-- The passage to WITHDRAWN (R175). -/
def State.withdraw (s : State) : State :=
  (((((s.closeSurvey).setNode .withdrawn).raise .withdrawn none).handIn
    .noticeWithdrawn)).handTally

/-- A lane taken out of the replied set (R182). -/
def State.unreply (n : Nat) (s : State) : State :=
  s.setSensor { s.sensor with replied := s.sensor.replied.filter fun k => decide (k ≠ n) }

/-- A lane added to the replied set (R173). -/
def State.reply (n : Nat) (s : State) : State :=
  s.setSensor { s.sensor with
    replied := if s.sensor.replied.contains n then s.sensor.replied else s.sensor.replied ++ [n] }

/-- What an inconsistency on a lane number does, by the node state (R120, R172, R175, R182). -/
def State.inconsistency (n : Nat) (s : State) : State :=
  match s.node with
  | .listen => s.unreply n
  | .active => s.enterRecovery
  | .recovery => s.withdraw
  | .withdrawn => s
  | .unconfigured => s

/-- An ENTER or LEAVE in WITHDRAWN is counted (R176). -/
def State.withhold (s : State) : State :=
  s.setSensor { s.sensor with
    withheld :=
      if s.sensor.withheld < Config.maxCount then s.sensor.withheld + 1 else s.sensor.withheld }

/-! ## ENTER (R121 to R130) -/

/-- The tests of R121 beyond the lane record: an ENTER that fails one is inconsistent. -/
def Lane.enterConsistent (m : Int) (l : Lane) : Bool :=
  decide (l.placed.length < Config.maxPlaced) && decide (m ≤ l.conf.length) &&
    decide (Config.minInferred ≤ m - l.used)

/-- A booked length lies within the tolerance of an inferred one (R122). -/
def within (tolerance length inferred : Int) : Bool :=
  decide (length - inferred ≤ tolerance) && decide (inferred - length ≤ tolerance)

/-- The inbound entry an ENTER is matched to, and whether the match is misdirected (R122, R123). -/
def matchEntry (tolerance inferred : Int) (n : Nat) (es : List Inbound) : Option (Inbound × Bool) :=
  match es.find? fun e => decide (e.lane = n) && within tolerance e.arrival.length inferred with
  | some e => some (e, false)
  | none =>
    (es.find? fun e => decide (e.lane ≠ n) && within tolerance e.arrival.length inferred).map
      fun e => (e, true)

/-- The physical tail of a lane (R5). -/
def Lane.tail? (l : Lane) : Option Record := l.placed.getLast?

/-- The overstow check fails (R127). -/
def overstowFails (a : Arrival) (tail : Option Record) : Bool :=
  match tail with
  | none => false
  | some t =>
    match t.rank with
    | none => false
    | some r => decide (r < a.rank) && !a.overstow

/-- The same-lane segregation check fails (R127). -/
def tailSegregationFails (a : Arrival) (tail : Option Record) : Bool :=
  match tail with
  | none => false
  | some t => separatedGroups t.hazard a.hazard.group?

/-- The adjacent-lane segregation check fails, for a record standing at `front` (R127). -/
def adjacentSegregationFails (t : LaneTable) (n : Nat) (front : Int) (a : Arrival) : Bool :=
  (t.lanes.filter fun k => adjacent k.number n).any fun k =>
    k.placed.any fun r =>
      separatedGroups r.hazard a.hazard.group? && spansOverlap r.front r.length front a.length

/-- The flags of the placement checks that a new record fails in a lane (R127). -/
def checkFlags (t : LaneTable) (l : Lane) (a : Arrival) : List Flag :=
  (if overstowFails a l.tail? then [.overstow] else []) ++
  (if tailSegregationFails a l.tail? || adjacentSegregationFails t l.number l.used a
    then [.segregation] else []) ++
  (if l.conf.axle < a.axle then [.axle] else []) ++
  (if l.conf.accepts a then [] else [.filter])

/-- A socket of the lane is free (R128). -/
def Lane.socketFree (l : Lane) : Bool := decide (l.sockets < l.conf.sockets)

/-- The flags a matched record is placed with for its place: failed checks, then NO SOCKET (R127, R128). -/
def breachFlags (t : LaneTable) (l : Lane) (a : Arrival) : List Flag :=
  checkFlags t l a ++ (if a.reefer && !l.socketFree then [.noSocket] else [])

/-- The lash limit of a lash class, in seconds (R131). -/
def lashLimit (cls : Nat) : Nat :=
  if cls = 0 then 120 else if cls = 1 then 300 else if cls = 2 then 600 else 1200

/-- The record created from a matched entry (R125). -/
def matchedRecord (t : LaneTable) (l : Lane) (e : Inbound) (misdirected : Bool) (lashDue : Nat) :
    Record :=
  { booking := some e.arrival.booking
    kind := e.arrival.kind.kind?
    length := e.arrival.length
    weight := e.arrival.weight
    axle := some e.arrival.axle
    hazard := e.arrival.hazard.group?
    reefer := e.arrival.reefer
    granted := e.arrival.reefer && l.socketFree
    rank := some e.arrival.rank
    front := l.used
    status := .lashing
    flags := (if misdirected then [.misdirected] else []) ++
      (if e.interrupted then [.interrupted] else []) ++ breachFlags t l e.arrival
    round := some e.round
    lashDue := some lashDue }

/-- The PLACED frame of a record created from an entry (R130). -/
def State.placedPayload (l : Lane) (e : Inbound) (s : State) : PlacedPayload :=
  { round := e.round
    booking := BitVec.ofNat 40 e.arrival.booking
    bay := BitVec.ofNat 8 s.conf.nodeNumber
    lane := BitVec.ofNat 8 l.number
    front := BitVec.ofInt 16 l.used }

/-- A matched ENTER, its effects in the order of R126. -/
def State.placeMatched (l : Lane) (e : Inbound) (misdirected : Bool) (s : State) : State :=
  let rec₁ := matchedRecord s.table l e misdirected (s.now + 1000 * lashLimit s.conf.lashClass)
  let frame := s.placedPayload l e
  let breach := breachFlags s.table l e.arrival
  let s := (s.placeRecord l rec₁).removeInbound e
  let s := s.handInbound.followCongestion
  let s := if misdirected then s.raise .misdirected (some l.number) else s
  let s := if breach.isEmpty then s else s.raise .placementBreach (some l.number)
  s.handIn (.placed frame)

/-- A consistent ENTER: matched, or unexpected (R122 to R124). -/
def State.applyEnter (l : Lane) (m : Int) (s : State) : State :=
  match matchEntry s.conf.tolerance (m - l.used) l.number s.table.inbound with
  | some (e, misdirected) => s.placeMatched l e misdirected
  | none => s.placeUnidentified l (m - l.used)

/-- An ENTER in LISTEN, ACTIVE or RECOVERY (R120, R121). -/
def State.takeEnter (n : Nat) (m : Int) (s : State) : State :=
  match s.table.lane? n with
  | none => s.inconsistency n
  | some l => if l.enterConsistent m then s.applyEnter l m else s.inconsistency n

/-! ## LEAVE (R134 to R136) -/

/-- The removal of a record raises EARLY REMOVAL: it is UNIDENTIFIED, or carries a rank other than 0
(R135). -/
def Record.leavesEarly (r : Record) : Bool :=
  decide (r.status = .unidentified) ||
    (match r.rank with
      | none => false
      | some k => decide (k ≠ 0))

/-- The expected occupied length of a lane: U − G, or 0 when its placed list is empty (R136, R174). -/
def Lane.expected (gap : Int) (l : Lane) : Int :=
  if l.placed.isEmpty then 0 else l.used - gap

/-- The post-check of a LEAVE (R136). -/
def Lane.postCheck (gap tolerance m : Int) (l : Lane) : Bool :=
  within tolerance m (l.expected gap)

/-- A consistent LEAVE: the physical tail removed, EARLY REMOVAL, and the post-check (R134 to R136). -/
def State.applyLeave (l : Lane) (r : Record) (m : Int) (s : State) : State :=
  let s := s.removeRecord l r
  let s := if r.leavesEarly then s.raise .earlyRemoval (some l.number) else s
  if (Lane.removeTail s.conf.gap r l).postCheck s.conf.gap s.conf.tolerance m then s
  else s.inconsistency l.number

/-- A LEAVE in LISTEN, ACTIVE or RECOVERY (R120, R134). -/
def State.takeLeave (n : Nat) (m : Int) (s : State) : State :=
  match s.table.lane? n with
  | none => s.inconsistency n
  | some l =>
    match l.tail? with
    | none => s.inconsistency n
    | some r => s.applyLeave l r m

/-! ## LEVEL (R174) -/

/-- Removal of the physical tail at a survey, at most `fuel` times, while d < −T (R174). -/
def State.surveyRemovals : Nat → Nat → Int → State → State
  | 0, _, _, s => s
  | fuel + 1, n, m, s =>
    match s.table.lane? n with
    | none => s
    | some l =>
      match l.tail? with
      | none => s
      | some r =>
        if m - l.expected s.conf.gap < -s.conf.tolerance then
          State.surveyRemovals fuel n m
            ((s.removeRecord l r).raise .earlyRemoval (some n))
        else s

/-- The case d > T of R174: nothing when m − U is less than 10 dm; not reconcilable when the placed list
holds 24 records; otherwise an UNIDENTIFIED record is appended. -/
def State.surveyAppend (n : Nat) (m : Int) (s : State) : State × Bool :=
  match s.table.lane? n with
  | none => (s, true)
  | some l =>
    if s.conf.tolerance < m - l.expected s.conf.gap then
      if m - l.used < Config.minInferred then (s, true)
      else if Config.maxPlaced ≤ l.placed.length then (s, false)
      else (s.placeUnidentified l (m - l.used), true)
    else (s, true)

/-- A LEVEL reconciles a lane with the measured length; with the state comes whether it could be
reconciled (R174). -/
def State.reconcile (l : Lane) (m : Int) (s : State) : State × Bool :=
  if l.conf.length < m then (s, false)
  else (s.surveyRemovals l.placed.length l.number m).surveyAppend l.number m

/-- A LEVEL while a survey is outstanding (R173, R174, R182). -/
def State.takeLevel (n : Nat) (m : Int) (s : State) : State :=
  match s.table.lane? n with
  | none => s
  | some l =>
    let r := s.reconcile l m
    if r.2 then r.1.reply n else r.1.inconsistency n

/-! ## The passage to ACTIVE (R175, R183) -/

/-- Each configured lane not in the replied set receives the suspect mark (R3, R175, R183). -/
def markUnreplied (replied : List Nat) (ls : List Lane) : List Lane :=
  ls.map fun l => if replied.contains l.number then l else l.withMark

/-- A bay passes to ACTIVE after a survey (R175, R183). -/
def State.bayToActive (s : State) : State :=
  ((s.setTable { s.table with
    lanes := markUnreplied s.sensor.replied s.table.lanes }).setNode .active).handTally

/-- A node passes from LISTEN to ACTIVE when its listen interval has ended and, at a bay, its survey has
closed (R183). -/
def State.maybeActive (s : State) : State :=
  if s.node = .listen ∧ s.listenDue = none then
    match s.conf.role with
    | .ramp => (s.setNode .active).handLook
    | .bay => if s.sensor.surveyDue = none then s.bayToActive else s
  else s

/-- The survey closes at END: in LISTEN the bay may pass to ACTIVE, in RECOVERY it does (R175, R182,
R183). -/
def State.takeEnd (s : State) : State :=
  let s := s.closeSurvey
  match s.node with
  | .listen => s.maybeActive
  | .recovery => s.bayToActive
  | .active => s
  | .withdrawn => s
  | .unconfigured => s

/-- The survey closes at the expiry of its timer: in LISTEN the bay may pass to ACTIVE, in RECOVERY it
passes to WITHDRAWN (R175, R182, R183). -/
def State.expireSurvey (s : State) : State :=
  match s.node with
  | .listen => s.closeSurvey.maybeActive
  | .recovery => s.withdraw
  | .active => s.closeSurvey
  | .withdrawn => s.closeSurvey
  | .unconfigured => s.closeSurvey

end Sys2Proof.Machine
end

