-- ==== Sys2Proof/Machine/Retained.lean ====
section
/-! DEFINITION. The Retained Store: beginning, completing and breaking the writes of the parts of the
retained stowage copy (R179), and emptying it at a configuration write (R178). -/

namespace Sys2Proof.Machine

open Sys2Proof

/-! ## One part -/

/-- A change of a part: a write begins with the contents as they stand, or one further write is marked
pending while a write is in flight (R179). -/
def Part.touch {α : Type} (c : α) (p : Part α) : Part α :=
  match p.writing with
  | none => { p with writing := some c }
  | some _ => { p with further := true }

/-- The completion of a part's write: the part holds the contents as they stood when the write began,
and a pending further write begins at once with the contents as they stand now (R179). -/
def Part.complete {α : Type} (current : α) (p : Part α) : Part α :=
  match p.writing with
  | none => p
  | some c =>
    { kept := .valid c, writing := if p.further then some current else none, further := false }

/-- Power lost during a part's write: the part is invalid (R177, R179). -/
def Part.broken {α : Type} (p : Part α) : Part α :=
  match p.writing with
  | none => p
  | some _ => { kept := .invalid, writing := none, further := false }

/-! ## The node copy -/

/-- The other slot. -/
def Slot.other : Slot → Slot
  | .a => .b
  | .b => .a

/-- What a slot of the node copy holds. -/
def NodePart.slot (p : NodePart) : Slot → Kept NodeCopy
  | .a => p.slotA
  | .b => p.slotB

/-- The node copy with another content in a slot. -/
def NodePart.setSlot (p : NodePart) (i : Slot) (k : Kept NodeCopy) : NodePart :=
  match i with
  | .a => { p with slotA := k }
  | .b => { p with slotB := k }

/-- The node copy with a write begun in the slot whose turn it is (R179). -/
def NodePart.beginWrite (c : NodeCopy) (p : NodePart) : NodePart :=
  { p with writing := some (p.next, c), next := p.next.other, further := false }

/-- A change of the node copy's values (R179). -/
def NodePart.touch (c : NodeCopy) (p : NodePart) : NodePart :=
  match p.writing with
  | none => p.beginWrite c
  | some _ => { p with further := true }

/-- The completion of the node copy's write (R179). -/
def NodePart.complete (current : NodeCopy) (p : NodePart) : NodePart :=
  match p.writing with
  | none => p
  | some (i, c) =>
    let q : NodePart := { p.setSlot i (.valid c) with later := i, writing := none }
    if p.further then q.beginWrite current else q

/-- Power lost during the node copy's write: the slot it was writing is spoiled (R179). -/
def NodePart.broken (p : NodePart) : NodePart :=
  match p.writing with
  | none => p
  | some (i, _) => { p.setSlot i .invalid with writing := none, further := false }

/-- The node copy that is read at a start: the valid slot written later, or 0 in every value with
neither slot valid (R179). -/
def NodePart.read (p : NodePart) : NodeCopy :=
  match p.slot p.later with
  | .valid c => c
  | .blank | .invalid =>
    match p.slot p.later.other with
    | .valid c => c
    | .blank | .invalid => { callNumber := 0, tallySeq := 0, roundSeq := 0 }

/-! ## The whole copy -/

/-- A record as a copy holds it: timers are not part of the copy (R117). -/
def Record.retained (r : Record) : Record := { r with lashDue := none }

/-- An inbound entry as the copy holds it: its travel timer is not part of it, and INTERRUPTED is set
at every restoration (R117, R179, R180). -/
def Inbound.retained (e : Inbound) : Inbound := { e with travelDue := none, interrupted := false }

/-- The contents of a lane's copy (R179). -/
def Lane.copy (l : Lane) : LaneCopy :=
  { stored := l.stored, placed := l.placed.map Record.retained, used := l.used, sockets := l.sockets }

/-- The contents of the node copy (R179). -/
def State.nodeCopy (s : State) : NodeCopy :=
  { callNumber := s.tally.callNumber, tallySeq := s.tally.seq, roundSeq := s.rounds.seq }

/-- The contents of the inbound list copy (R179). -/
def State.inboundCopy (s : State) : List Inbound := s.table.inbound.map Inbound.retained

/-- The lane copies with a change of one lane's copy (R18, R179). -/
def touchLane (t : LaneTable) (ps : List LanePart) (n : Nat) : List LanePart :=
  match t.lane? n with
  | none => ps
  | some l => ps.map fun p => if p.number = n then { p with part := p.part.touch l.copy } else p

/-- The copy writes an event begins, one for each part it changed (R18, R179). No write is made while
the node is UNCONFIGURED, and none after a configuration write until the next start (R178, R179). -/
def State.beginCopyWrites (s : State) : State :=
  if s.node = .unconfigured ∨ s.retained.stopped = true then s
  else
    let h := s.handed
    let r := s.retained
    s.setRetained
      { r with
        lanes := h.lanes.dedup.foldl (touchLane s.table) r.lanes
        inbound := if h.inbound then r.inbound.touch s.inboundCopy else r.inbound
        node := if h.node then r.node.touch s.nodeCopy else r.node }

/-- Completes the write of one lane copy (R179). -/
def completeLane (t : LaneTable) (n : Nat) (ps : List LanePart) : List LanePart :=
  match t.lane? n with
  | none => ps
  | some l => ps.map fun p => if p.number = n then { p with part := p.part.complete l.copy } else p

/-- The retained copy after the write of one part completes (R179). -/
def State.completeWrite (part : CopyPart) (s : State) : State :=
  let r := s.retained
  match part with
  | .lane n => s.setRetained { r with lanes := completeLane s.table n r.lanes }
  | .inbound => s.setRetained { r with inbound := r.inbound.complete s.inboundCopy }
  | .node => s.setRetained { r with node := r.node.complete s.nodeCopy }

/-- Some write of the retained copy is in flight (R177). -/
def Retained.writeInFlight (r : Retained) : Bool :=
  r.lanes.any (fun p => p.part.writing.isSome) || r.inbound.writing.isSome || r.node.writing.isSome

/-- Power lost: every write in flight is broken (R177). -/
def Retained.broken (r : Retained) : Retained :=
  { r with
    lanes := r.lanes.map fun p => { p with part := p.part.broken }
    inbound := r.inbound.broken
    node := r.node.broken }

/-- Emptied by a configuration write: no part has content, writes in flight are given up, and no
further copies are written until the next start (R178). -/
def Retained.emptied : Retained := { Retained.blank with stopped := true }

end Sys2Proof.Machine
end

