-- ==== Sys2Proof/Machine/Rounds.lean ====
section
/-! DEFINITION. The Round Controller of a ramp: arrivals (R102 to R104), the waiting queue and the
callable entry (R105, R106), the opening and the closing of rounds (R82 to R87, R108, R109), answers of
bays (R110, R111), the gate hold (R113), ADVANCE PORT (R115), and the abandonment of a round by the stop
line (R116). -/

namespace Sys2Proof.Machine

open Sys2Proof

/-! ## The gate hold (R113) -/

/-- The gate hold follows the waiting-queue count at each change of it (R113). -/
def State.followHold (s : State) : State :=
  s.setRounds { s.rounds with
    hold := Machine.gate s.conf.holdHigh s.conf.holdLow s.rounds.waiting.length s.rounds.hold }

/-! ## Arrivals (R102 to R104) -/

/-- The waiting queue or the dispatched list holds the booking (R102). -/
def RoundController.holdsBooking (rc : RoundController) (b : Nat) : Bool :=
  rc.waiting.any (fun w => decide (w.arrival.booking = b)) ||
    rc.dispatched.any (fun d => decide (d.arrival.booking = b))

/-- The first case of R102 that an arrival record meets. -/
def RoundController.refusal (rc : RoundController) (a : Arrival) : Option RefusedReason :=
  if a.booking = 0 then some .noBooking
  else if a.kind.kind? = none then some .badKind
  else if 250 < a.length then some .tooLong
  else if 600 < a.weight then some .tooHeavy
  else if a.hazard ≠ .none ∧ a.hazard.group? = none then some .badHazard
  else if rc.holdsBooking a.booking then some .duplicate
  else if Config.maxWaiting ≤ rc.waiting.length then some .queueFull
  else none

/-- A value brought into a range, at the nearer limit (R103, R178). -/
def clamp (lo hi v : Int) : Int := max lo (min hi v)

/-- The fields of R103 brought into their ranges. -/
def Arrival.inBounds (a : Arrival) : Arrival :=
  { a with
    length := max 20 a.length
    width := clamp 15 45 a.width
    height := clamp 10 50 a.height
    weight := max 5 a.weight
    axle := clamp 5 200 a.axle
    rank := max 1 (min 15 a.rank) }

/-- An accepted arrival as the ramp works with it: clamped, with the CLAMPED mark set when a field
changed (R103). -/
def Arrival.accepted (a : Arrival) : Arrival :=
  { a.inBounds with clamped := decide (a.inBounds ≠ a) }

/-- An ARRIVAL taken at a ramp in LISTEN or ACTIVE (R102, R104). -/
def State.takeArrival (a : Arrival) (s : State) : State :=
  match s.rounds.refusal a with
  | some reason => s.dispose a.booking (.refused reason)
  | none =>
    ((s.setRounds { s.rounds with
      waiting := s.rounds.waiting ++
        [{ arrival := a.accepted, attempts := 0, notBefore := none, called := false }] }).followHold
          ).handLook

/-! ## The callable entry and the opening of a round (R82, R106) -/

/-- An entry is blocked by the gradient class (R106). -/
def Arrival.blockedAt (g : Fin 4) (a : Arrival) : Bool :=
  decide (g = 2) && (a.has .heavy || a.has .oversize)

/-- An entry that meets the three conditions of R106. -/
def WaitingEntry.callable (now : Nat) (g : Fin 4) (w : WaitingEntry) : Bool :=
  (match w.notBefore with
    | none => true
    | some t => decide (t ≤ now)) && !w.called && !(w.arrival.blockedAt g)

/-- What R82 asks for besides a callable entry. -/
abbrev State.MayOpen (s : State) : Prop :=
  s.IsRamp ∧ s.node = .active ∧ s.rounds.openRound = none ∧ s.dli.line = .normal ∧
    s.rounds.gradient ≠ 3 ∧ s.stopPending = false

/-- The waiting queue with the called mark on its first callable entry (R81, R105). -/
def markCalled (now : Nat) (g : Fin 4) : List WaitingEntry → List WaitingEntry
  | [] => []
  | w :: ws =>
    if w.callable now g then { w with called := true } :: ws else w :: markCalled now g ws

/-- Opens a round for the callable entry `w`: the round sequence is raised by one, the CALL formed and
handed to the DLI, and the ramp passes to CALLING with an empty offer list and a stopped window
timer (R82). -/
def State.openRoundFor (w : WaitingEntry) (s : State) : State :=
  let r : RoundId := { ramp := BitVec.ofNat 8 s.conf.rampId, seq := s.rounds.seq + 1 }
  ((s.setRounds { s.rounds with
    seq := s.rounds.seq + 1
    waiting := markCalled s.now s.rounds.gradient s.rounds.waiting
    openRound := some
      { round := r, deckMask := s.conf.deckMask, window := s.conf.offerWindow
        windowDue := none, offers := [] } }).handNode).handIn
    (.call
      { round := r
        deckMask := s.conf.deckMask
        window := BitVec.ofNat 8 (s.conf.offerWindow / 10)
        arrival := w.arrival.toWire })

/-- Looks whether a round may open (R82). -/
def State.lookForCallable (s : State) : State :=
  if s.MayOpen then
    match s.rounds.waiting.find? (WaitingEntry.callable s.now s.rounds.gradient) with
    | none => s
    | some w => s.openRoundFor w
  else s

/-! ## Offers (R84) -/

/-- What R84 asks of an OFFER, the ramp having caught up with its call number. -/
def State.takesOffer (source callNumber : Byte) (p : OfferPayload) (o : OpenRound) (s : State) :
    Bool :=
  decide (p.round = o.round) && !(lags callNumber s.tally.callNumber) &&
    decide (1 ≤ p.bay.toNat) && decide (p.bay.toNat ≤ 48) && decide (p.bay = source) &&
    maskHasDeck o.deckMask p.deck.toNat && decide (p.lane.toNat ≤ 7) &&
    decide (p.score.toNat ≤ 256) && !(o.offers.any fun x => decide (x.bay = p.bay))

/-- An OFFER taken at a ramp (R84). -/
def State.takeOffer (source callNumber : Byte) (p : OfferPayload) (s : State) : State :=
  match s.rounds.openRound with
  | none => s
  | some o =>
    if s.takesOffer source callNumber p o then
      s.setRounds { s.rounds with
        openRound := some { o with
          offers := o.offers ++
            [{ bay := p.bay, deck := p.deck, lane := p.lane, score := p.score.toNat }] } }
    else s

/-- One more offer compared with the best so far: a higher score, or an equal score from a lower bay
number (R85). -/
def betterOffer (best x : Offer) : Offer :=
  if best.score < x.score then x
  else if x.score = best.score ∧ x.bay.toNat < best.bay.toNat then x
  else best

/-- The offer that is awarded (R85). -/
def bestOffer : List Offer → Option Offer
  | [] => none
  | x :: xs => some (xs.foldl betterOffer x)

/-! ## The held advance (R115) -/

/-- Acts on an advance: the call number is raised by one, a PORTCALL carrying it is handed to the DLI,
and the held advance is removed (R115). -/
def State.actOnAdvance (s : State) : State :=
  let n := s.tally.callNumber + 1
  let s := (s.setTally { s.tally with callNumber := n }).handNode
  let s := s.handIn (.portcall n)
  s.setRounds { s.rounds with heldAdvance := false }

/-- At the close of a round a held advance is acted on (R115). -/
def State.actOnHeld (s : State) : State :=
  if s.rounds.heldAdvance then s.actOnAdvance else s

/-! ## The close of a round (R85, R86, R108, R109) -/

/-- The dispatched list with an entry appended; when it holds 16, its oldest is removed first (R109). -/
def dispatch (e : DispatchedEntry) (ds : List DispatchedEntry) : List DispatchedEntry :=
  if Config.maxDispatched ≤ ds.length then ds.tail ++ [e] else ds ++ [e]

/-- The award of a round (R85, R109). -/
def State.award (o : OpenRound) (x : Offer) (s : State) : State :=
  let s := s.handIn (.award { round := o.round, bay := x.bay, lane := x.lane })
  let s :=
    match s.rounds.waiting.find? (·.called) with
    | none => s
    | some w =>
      ((s.dispose w.arrival.booking (.awarded x.deck x.bay x.lane w.arrival.clamped)).setRounds
        { s.rounds with
          waiting := s.rounds.waiting.eraseP (·.called)
          dispatched := dispatch
            { round := o.round, arrival := w.arrival, attempts := w.attempts, deck := x.deck
              bay := x.bay, lane := x.lane } s.rounds.dispatched }).followHold
  s.setRounds { s.rounds with openRound := none }

/-- The called entry after a round without an award: its called mark is removed, its attempt count
raised, and its not-before time set the recall delay later (R108). -/
def WaitingEntry.recalled (now delay : Nat) (w : WaitingEntry) : WaitingEntry :=
  if w.called then
    { w with
      attempts := w.attempts + 1, notBefore := some (now + 1000 * delay), called := false }
  else w

/-- A round closes without an award: the called entry is recalled later, or shut out at the attempt
limit (R86, R108). -/
def State.closeWithoutAward (s : State) : State :=
  let s := s.setRounds { s.rounds with openRound := none }
  match s.rounds.waiting.find? (·.called) with
  | none => s
  | some w =>
    if w.attempts + 1 < s.conf.attemptLimit then
      s.setRounds { s.rounds with
        waiting := s.rounds.waiting.map (WaitingEntry.recalled s.now s.conf.recallDelay) }
    else
      ((s.setRounds { s.rounds with
        waiting := s.rounds.waiting.eraseP (·.called) }).followHold).dispose
          w.arrival.booking (.shutOut .noOffer)

/-- The expiry of the window timer of the open round (R85, R86), the held advance acted on after it
(R115), and the look for the next callable entry (R82). -/
def State.expireWindow (o : OpenRound) (s : State) : State :=
  let closed :=
    match s.dli.line, bestOffer o.offers with
    | .normal, some x => s.award o x
    | .normal, none => s.closeWithoutAward
    | .silent, _ => s.closeWithoutAward
  closed.actOnHeld.handLook

/-! ## Answers of bays (R110, R111), and lost AWARDs (R87) -/

/-- A dispatched entry awarded to a bay in a round (R110). -/
def DispatchedEntry.isFor (r : RoundId) (bay : Byte) (d : DispatchedEntry) : Bool :=
  decide (d.round = r) && decide (d.bay = bay)

/-- The three steps of R110 for a dispatched entry: CANCELLED, removal from the dispatched list, and
return to the head of the waiting queue, or SHUT OUT when the queue is full. -/
def State.cancelDispatched (r : RoundId) (bay : Byte) (reason : CancelReason) (s : State) : State :=
  match s.rounds.dispatched.find? (DispatchedEntry.isFor r bay) with
  | none => s
  | some d =>
    let s := s.dispose d.arrival.booking (.cancelled reason)
    let s := s.setRounds { s.rounds with
      dispatched := s.rounds.dispatched.eraseP (DispatchedEntry.isFor r bay) }
    if s.rounds.waiting.length < Config.maxWaiting then
      ((s.setRounds { s.rounds with
        waiting :=
          { arrival := d.arrival, attempts := d.attempts, notBefore := none, called := false } ::
            s.rounds.waiting }).followHold).handLook
    else s.dispose d.arrival.booking (.shutOut .queueFull)

/-- The round is one of this ramp (R88, R110, R111). -/
def State.ownRound (r : RoundId) (s : State) : Bool :=
  decide (r.ramp = BitVec.ofNat 8 s.conf.rampId)

/-- A DECLINE taken at a ramp (R110). -/
def State.takeDecline (source : Byte) (p : DeclinePayload) (s : State) : State :=
  if s.ownRound p.round then s.cancelDispatched p.round source (.declined p.reason) else s

/-- The dispatched entry that a PLACED frame or a MISSING notice answers (R111). -/
def DispatchedEntry.answeredBy (r : RoundId) (bay : Byte) (booking : BookingWord)
    (d : DispatchedEntry) : Bool :=
  d.isFor r bay && decide (d.arrival.booking = booking.toNat)

/-- A PLACED frame or a MISSING notice taken at a ramp: the entry is reported and removed (R111). -/
def State.takeArrived (r : RoundId) (source : Byte) (booking : BookingWord) (v : Verdict)
    (s : State) : State :=
  if s.ownRound r then
    match s.rounds.dispatched.find? (DispatchedEntry.answeredBy r source booking) with
    | none => s
    | some d =>
      (s.dispose d.arrival.booking v).setRounds { s.rounds with
        dispatched := s.rounds.dispatched.eraseP (DispatchedEntry.answeredBy r source booking) }
  else s

/-- The window timer of the open round is started, at the acknowledgement or drop of its CALL (R83). -/
def State.startWindow (r : RoundId) (s : State) : State :=
  match s.rounds.openRound with
  | none => s
  | some o =>
    if o.round = r ∧ o.windowDue = none then
      s.setRounds { s.rounds with
        openRound := some { o with windowDue := some (s.now + o.window) } }
    else s

/-- The report of a drop: of a CALL it starts the window timer (R83), of an AWARD it is the loss that is
treated as a DECLINE (R87). -/
def State.settleDrop (s : State) (d : Drop) : State :=
  match d with
  | .call r => s.startWindow r
  | .award r bay => s.cancelDispatched r bay .unsent

/-- The drops of the event are reported (R152, R157). -/
def State.settleDrops (s : State) : State :=
  s.handed.drops.foldl State.settleDrop (s.setHanded { s.handed with drops := [] })

/-! ## The stop line at a ramp (R116) -/

/-- The called entry moved to the head of the waiting queue, without its called mark and not-before time
(R116). -/
def calledToHead (ws : List WaitingEntry) : List WaitingEntry :=
  match ws.find? (·.called) with
  | none => ws
  | some w => { w with called := false, notBefore := none } :: ws.eraseP (·.called)

/-- A rising edge of the stop line at a ramp: the open round, if any, is abandoned (R116). -/
def State.abandonRound (s : State) : State :=
  match s.rounds.openRound with
  | none => s
  | some o =>
    let s := s.removeCall o.round
    let s := s.setRounds { s.rounds with
      waiting := calledToHead s.rounds.waiting, openRound := none }
    s.actOnHeld.handLook

end Sys2Proof.Machine
end

