-- ==== Sys2Proof/Machine/Finish.lean ====
section
/-! DEFINITION. How a command is taken as one event: its own effect, and then what the event has to hand
on (R18): drops reported (R152), a round opened (R82), the evaluation restarted once (R72), a TALLY
built or its pending change set (R140), and copy writes begun (R179). -/

namespace Sys2Proof.Machine

open Sys2Proof

/-- The look for a callable entry, when the event is one at which R82 looks. -/
def State.lookIfAsked (s : State) : State :=
  if s.handed.look then s.lookForCallable else s

/-- The restart of the evaluation in flight, once for the event (R18, R72). -/
def State.restartIfAsked (s : State) : State :=
  if s.handed.restart then s.restartEvaluation else s

/-- The TALLY of the event, once for all its causes (R126, R140). -/
def State.tallyIfAsked (s : State) : State :=
  if s.handed.tally = true ∧ s.IsBay then s.causeTally else s

/-- The end of an event: what it hands on, in order. -/
def State.finish (s : State) : State :=
  (((((((s.settleDrops).lookIfAsked).settleDrops).restartIfAsked).tallyIfAsked).beginCopyWrites
    ).setHanded HandedOn.clear)

/-- A command taken as one event: with nothing yet to hand on, its own effect, and the end of the
event. -/
def State.event (f : State → State) (s : State) : State :=
  (f (s.setHanded HandedOn.clear)).finish

end Sys2Proof.Machine
end

