-- ==== Sys2Proof/Machine/Frames.lean ====
section
/-! DEFINITION. Frames of the deck line as they reach a node: reception, acknowledgement, form and
catch-up (R145, R156, R161), and the nine frames as each role takes them. -/

namespace Sys2Proof.Machine

open Sys2Proof

/-- The reception of a frame at a configured node: nothing is taken from a frame whose check word
disagrees, a frame that agrees is acknowledged (R156), a malformed one is then discarded (R161), and
a well-formed one brings the node's call number up (R145) before it is taken. -/
def State.receive (h : RxHeader) (p : Payload) (take : State → State) (s : State) : State :=
  if s.Configured ∧ frameAgrees h p = true then
    if frameWellFormed h p then take (s.acknowledge.catchUp h.callNumber) else s.acknowledge
  else s

/-- A frame that bays alone act on (R161). -/
def State.atBay (take : State → State) (s : State) : State :=
  match s.conf.role with
  | .bay => take s
  | .ramp => s

/-- A frame that ramps alone act on (R161). -/
def State.atRamp (take : State → State) (s : State) : State :=
  match s.conf.role with
  | .bay => s
  | .ramp => take s

/-! ## AWARD at a bay (R91 to R96) -/

/-- The bay holds an inbound entry or a placed record of the round (R91). -/
def LaneTable.holdsRound (t : LaneTable) (r : RoundId) : Bool :=
  t.inbound.any (fun e => decide (e.round = r)) ||
    t.lanes.any fun l => l.placed.any fun x => decide (x.round = some r)

/-- A DECLINE handed to the DLI (R98). -/
def State.answerDecline (r : RoundId) (reason : Byte) (s : State) : State :=
  s.handIn (.decline { round := r, reason := reason })

/-- An AWARD naming this bay (R91 to R95). -/
def State.takeOwnAward (p : AwardPayload) (s : State) : State :=
  match s.table.reservations.find? fun x => decide (x.round = p.round) with
  | none =>
    if s.table.holdsRound p.round then s
    else s.answerDecline p.round declineNoReservation
  | some r =>
    if r.lane ≠ p.lane.toNat then
      (s.releaseRound p.round).answerDecline p.round declineLaneMismatch
    else if s.table.inbound.length < Config.maxInbound then s.convert r
    else (s.releaseRound p.round).answerDecline p.round declineInboundFull

/-- An AWARD at a bay, sorted by the bay it names (R91, R96). -/
def State.takeAward (p : AwardPayload) (s : State) : State :=
  if p.bay = BitVec.ofNat 8 s.conf.nodeNumber then s.takeOwnAward p else s.releaseRound p.round

/-! ## The meanings -/

/-- CALL (R65). -/
def execCall (h : RxHeader) (p : CallPayload) (s : State) : Host.Outcome State Fault Refusal :=
  .next (s.event (State.receive h (.call p)
    (State.atBay (State.takeCall h.callNumber p))))

/-- OFFER (R84). -/
def execOffer (h : RxHeader) (p : OfferPayload) (s : State) : Host.Outcome State Fault Refusal :=
  .next (s.event (State.receive h (.offer p)
    (State.atRamp (State.takeOffer h.source h.callNumber p))))

/-- AWARD (R91). -/
def execAward (h : RxHeader) (p : AwardPayload) (s : State) : Host.Outcome State Fault Refusal :=
  .next (s.event (State.receive h (.award p) (State.atBay (State.takeAward p))))

/-- DECLINE (R110). -/
def execDecline (h : RxHeader) (p : DeclinePayload) (s : State) :
    Host.Outcome State Fault Refusal :=
  .next (s.event (State.receive h (.decline p) (State.atRamp (State.takeDecline h.source p))))

/-- PLACED (R111). -/
def execPlaced (h : RxHeader) (p : PlacedPayload) (s : State) : Host.Outcome State Fault Refusal :=
  .next (s.event (State.receive h (.placed p)
    (State.atRamp (State.takeArrived p.round h.source p.booking (.stowed p.bay p.lane p.front)))))

/-- NOTICE_MISSING (R111). -/
def execNoticeMissing (h : RxHeader) (p : MissingPayload) (s : State) :
    Host.Outcome State Fault Refusal :=
  .next (s.event (State.receive h (.noticeMissing p)
    (State.atRamp (State.takeArrived p.round h.source p.booking .missing))))

/-- A TALLY at a bay: the catch-up it caused is complete, its restart with it, before the TALLY is taken
into the peer table, so that only a later start or restart reads the new entry (R72, R141, R148). -/
def State.takeTallyFrame (source : Byte) (p : TallyPayload) (s : State) : State :=
  s.settleRestart.takeTally source p

/-- TALLY (R141). -/
def execTally (h : RxHeader) (p : TallyPayload) (s : State) : Host.Outcome State Fault Refusal :=
  .next (s.event (State.receive h (.tally p) (State.atBay (State.takeTallyFrame h.source p))))

/-- NOTICE_WITHDRAWN (R142). -/
def execNoticeWithdrawn (h : RxHeader) (s : State) : Host.Outcome State Fault Refusal :=
  .next (s.event (State.receive h .noticeWithdrawn (State.atBay (State.markWithdrawn h.source))))

/-- PORTCALL (R146): it acts through its call number alone. -/
def execPortcall (h : RxHeader) (n : Byte) (s : State) : Host.Outcome State Fault Refusal :=
  .next (s.event (State.receive h (.portcall n) id))

end Sys2Proof.Machine
end

