-- ==== Sys2Proof/Machine/Gate.lean ====
section
/-! DEFINITION. The gate line: ARRIVAL at a ramp (R102 to R104, R162). -/

namespace Sys2Proof.Machine

open Sys2Proof

/-- A gate line record is an ARRIVAL to be taken (R162, R163). -/
def arrivalAgrees (w : ArrivalWire) (check : RxCheck) : Bool := messageAgrees (arrivalBytes w) check

/-- ARRIVAL (R102): taken at a configured ramp, in LISTEN and ACTIVE. A bay, an UNCONFIGURED node and a
closed node discard it, and any node discards a record whose check word disagrees or whose code or length
is none of the line's (R162, R177, R178). -/
def execArrival (w : ArrivalWire) (check : RxCheck) (s : State) :
    Host.Outcome State Fault Refusal :=
  .next (s.event fun s =>
    if s.IsRamp ∧ arrivalAgrees w check = true then s.takeArrival (Arrival.ofWire w) else s)

end Sys2Proof.Machine
end

