-- ==== Sys2Proof/Machine/LineEvents.lean ====
section
/-! DEFINITION. Events of the deck line at this node: TRANSMIT_START (R154, R155), ATTEMPT_END (R153,
R154, R157 to R160) and PROBE_TIME (R160). -/

namespace Sys2Proof.Machine

open Sys2Proof

/-! ## SILENT and the return to NORMAL (R159, R160) -/

/-- The line state becomes SILENT (R159). -/
def State.becomeSilent (s : State) : State :=
  let drops := s.dli.queue.flatMap fun f => f.payload.dropReport
  let s := (s.setDli { s.dli with
    line := .silent, queue := [], onLine := none
    probeTime := some (s.now + Config.probeInterval) }).handDrops drops
  let s :=
    match s.conf.role with
    | .bay => s.releaseAll.abandonAll
    | .ramp => s
  s.raise .lineSilent none

/-- An acknowledged probe returns the line state to NORMAL (R160). -/
def State.returnToNormal (s : State) : State :=
  let s := (s.setDli { s.dli with line := .normal, failures := 0, probeTime := none }).clear
    .lineSilent none
  match s.conf.role with
  | .bay => s.handTally
  | .ramp => s.handLook

/-! ## The end of an attempt (R153, R154, R157) -/

/-- The DLI without the frame of an age, and with no attempt on the line. -/
def Dli.without (age : Nat) (d : Dli) : Dli :=
  { d with queue := d.queue.filter fun f => decide (f.age ≠ age), onLine := none }

/-- An acknowledged attempt: the frame leaves the queue, the count becomes 0, the window timer of a CALL
starts, and in SILENT the line state returns to NORMAL (R157, R160). The end of a frame that was to
be removed is reported to no block (R154). -/
def State.attemptAcknowledged (f : QFrame) (s : State) : State :=
  let before := s.dli.line
  let s := s.setDli { s.dli.without f.age with failures := 0 }
  let s :=
    match f.payload with
    | .call p => if f.leaving then s else s.startWindow p.round
    | .offer _ => s
    | .award _ => s
    | .decline _ => s
    | .placed _ => s
    | .tally _ => s
    | .noticeWithdrawn => s
    | .noticeMissing _ => s
    | .portcall _ => s
  match before with
  | .silent => s.returnToNormal
  | .normal => s

/-- The drop of a frame at its 8th attempt: it leaves the queue, the count is raised, the 16th drop in
NORMAL turns the line state SILENT, and a CALL or AWARD is reported (R157, R158). -/
def State.dropFrame (f : QFrame) (s : State) : State :=
  let s := s.setDli (s.dli.without f.age)
  match s.dli.line with
  | .silent => s.handDrops f.payload.dropReport
  | .normal =>
    let s := s.setDli { s.dli with failures := s.dli.failures + 1 }
    let s := if Config.silentFailures ≤ s.dli.failures then s.becomeSilent else s
    s.handDrops f.payload.dropReport

/-- An attempt that is not acknowledged (R153, R154, R157). -/
def State.attemptFailed (f : QFrame) (s : State) : State :=
  if f.leaving then s.setDli (s.dli.without f.age)
  else if f.attempts + 1 < Config.maxAttempts then
    s.setDli { s.dli with
      onLine := none
      queue := s.dli.queue.map fun g =>
        if g.age = f.age then { g with attempts := g.attempts + 1 } else g }
  else s.dropFrame f

/-- The end of the attempt on the line, if there is one (R155, R157): an attempt that a frame of equal
class and source spoiled is not acknowledged. -/
def State.endAttempt (acknowledged : Bool) (s : State) : State :=
  match s.dli.onLine with
  | none => s
  | some o =>
    match s.dli.queue.find? fun f => decide (f.age = o.age) with
    | none => s.setDli { s.dli with onLine := none }
    | some f =>
      if acknowledged && !o.spoiled then s.attemptAcknowledged f else s.attemptFailed f

/-! ## Probes (R160) -/

/-- A probe at its time: a TALLY at a bay, a PORTCALL with the present call number at a ramp (R160). -/
def State.probe (due : Nat) (s : State) : State :=
  let s := s.reach due
  let s := s.setDli { s.dli with probeTime := some (due + Config.probeInterval) }
  match s.conf.role with
  | .bay => s.buildProbeTally
  | .ramp => s.enqueueProbe (.portcall s.tally.callNumber)

/-- PROBE_TIME at the DLI: in SILENT, when a probe time is set (R160). -/
def State.takeProbeTime (s : State) : State :=
  match s.dli.line, s.dli.probeTime with
  | .silent, some due => s.probe due
  | .silent, none => s
  | .normal, _ => s

/-! ## The meanings -/

/-- TRANSMIT_START (R155). -/
def execTransmitStart (rivals : List Rival) (s : State) : Host.Outcome State Fault Refusal :=
  .next (s.event fun s => if s.Configured then s.startAttempt rivals else s)

/-- ATTEMPT_END (R157). -/
def execAttemptEnd (acknowledged : Bool) (s : State) : Host.Outcome State Fault Refusal :=
  .next (s.event fun s => if s.Configured then s.endAttempt acknowledged else s)

/-- PROBE_TIME (R160). -/
def execProbeTime (s : State) : Host.Outcome State Fault Refusal :=
  .next (s.event fun s => if s.Configured then s.takeProbeTime else s)

end Sys2Proof.Machine
end

