-- ==== Sys2Proof/Machine/Startup.lean ====
section
/-! DEFINITION. Start-up: the loading of the configuration store (R178), the restoration from the retained
stowage copy (R24, R180), the entry to LISTEN (R181), and the meanings of POWER_ON, PANEL_RESET, START,
CONFIGURATION_WRITE and COPY_WRITE_COMPLETION (R177 to R179). -/

namespace Sys2Proof.Machine

open Sys2Proof

/-! ## The configuration store (R61, R178) -/

/-- A lane entry with its fields clamped to their ranges (R1, R178). -/
def LaneEntry.clamped (e : LaneEntry) : LaneEntry :=
  { e with
    length := clamp 60 1200 e.length
    y := clamp (-200) 200 e.y
    xf := clamp (-1200) 1200 e.xf
    axle := clamp 50 200 e.axle
    sockets := clamp 0 12 e.sockets }

/-- The lane entries that are loaded: one whose number lies outside 0..7, or repeats a number already
loaded, is discarded (R178). -/
def keptLanes (es : List LaneEntry) : List LaneEntry :=
  es.foldl (fun acc e =>
    if 0 ≤ e.number ∧ e.number ≤ 7 ∧ (acc.any fun k => decide (k.number = e.number)) = false
    then acc ++ [e] else acc) []

/-- A lane entry as the configured fields of a lane (R1). -/
def LaneEntry.conf (e : LaneEntry) : LaneConf :=
  { number := e.number.toNat, length := e.length, y := e.y, xf := e.xf, axle := e.axle
    sockets := e.sockets.toNat, matchSet := e.matchSet, careSet := e.careSet
    firstState := e.firstState }

/-- The loaded lanes in ascending lane number. -/
def sortedLanes (es : List LaneEntry) : List LaneConf :=
  (List.range 8).filterMap fun n =>
    (es.find? fun e => decide (e.number = (n : Int))).map LaneEntry.conf

/-- A scan order is valid when it names each configured lane exactly once and names no other number
(R61). -/
def scanValid (numbers : List Nat) (scan : List Int) : Bool :=
  decide (scan.length = numbers.length) && decide scan.Nodup &&
    scan.all fun n => numbers.any fun k => decide ((k : Int) = n)

/-- The scan order in force (R61). -/
def loadedScan (numbers : List Nat) (scan : List Int) : List Nat :=
  if scanValid numbers scan then scan.map Int.toNat else numbers.reverse

/-- A low mark: clamped to its range, and to the high mark less one when not below it (R78, R113, R178). -/
def lowMark (high low : Int) (top : Int) : Int := min (high - 1) (clamp 0 top low)

/-- The offer window: taken at the step of 10 ms below it, then clamped to 100..2000 ms (R178). -/
def loadedWindow (w : Int) : Int := clamp 100 2000 (10 * (w / 10))

/-- A mask has no deck of 1..6 (R178). -/
def namesNoDeck (m : Byte) : Bool := decide (m &&& 0x3F = 0)

/-- A ramp's deck mask; one that names no deck is replaced by the ramp's own deck (R178). -/
def loadedMask (m : Byte) (deck : Int) : Byte :=
  if namesNoDeck m then (1 : Byte) <<< (deck.toNat - 1) else m

/-- The levels of an alarm mask that lie in 1..6 (R167, R178). -/
def keptLevels (ls : List Int) : List Int := ls.filter fun l => decide (1 ≤ l) && decide (l ≤ 6)

/-- The store with every field as it is loaded (R178): the lanes, the bay-wide values and the ramp values
alike, whatever the role. The number that identifies a node of the other role is clamped with them
(log entry 7); that of the own role is in range wherever the store is usable. -/
def ConfigStore.loaded (c : ConfigStore) : ConfigStore :=
  let lanes := (keptLanes c.lanes).map LaneEntry.clamped
  let congestHigh := clamp 1 6 c.congestHigh
  let holdHigh := clamp 1 16 c.holdHigh
  { role := c.role
    nodeNumber := clamp 1 48 c.nodeNumber
    rampId := clamp 0 3 c.rampId
    deck := clamp 1 6 c.deck
    lanes := lanes
    gap := clamp 2 10 c.gap
    tolerance := clamp 10 100 c.tolerance
    unidentifiedWeight := clamp 50 600 c.unidentifiedWeight
    bayWeightLimit := clamp 100 60000 c.bayWeightLimit
    scanOrder := (loadedScan ((sortedLanes lanes).map (·.number)) c.scanOrder).map Int.ofNat
    mtLim := clamp 0 2000000 c.mtLim
    mlMin := clamp (-20000000) 20000000 c.mlMin
    mlMax := clamp (-20000000) 20000000 c.mlMax
    baseMT := clamp (-20000000) 20000000 c.baseMT
    baseML := clamp (-20000000) 20000000 c.baseML
    wF := clamp 0 15 c.wF
    wD := clamp 0 15 c.wD
    wH := clamp 0 15 c.wH
    awardGrace := clamp 200 5000 c.awardGrace
    congestHigh := congestHigh
    congestLow := lowMark congestHigh c.congestLow 5
    travelLimit := clamp 60 1800 c.travelLimit
    lashClass := clamp 0 3 c.lashClass
    alarmMask := keptLevels c.alarmMask
    listenInterval := clamp 5 60 c.listenInterval
    offerWindow := loadedWindow c.offerWindow
    deckMask := loadedMask c.deckMask (clamp 1 6 c.deck)
    attemptLimit := clamp 1 5 c.attemptLimit
    recallDelay := clamp 2 60 c.recallDelay
    holdHigh := holdHigh
    holdLow := lowMark holdHigh c.holdLow 15 }

/-- The store leaves the node UNCONFIGURED (R178). -/
def ConfigStore.unusable (c : ConfigStore) : Bool :=
  match c.role with
  | .neither => true
  | .bay => decide (c.nodeNumber < 1) || decide (48 < c.nodeNumber) || (keptLanes c.lanes).isEmpty
  | .ramp => decide (c.rampId < 0) || decide (3 < c.rampId)

/-- The configuration in force, from a store as it is loaded. Bits 6 and 7 of a deck mask stand for no
deck and are sent as 0 (R163). -/
def ConfigStore.conf (c : ConfigStore) : Conf :=
  { role := (match c.role with
      | .ramp => Role.ramp
      | .bay => Role.bay
      | .neither => Role.bay)
    nodeNumber := c.nodeNumber.toNat, rampId := c.rampId.toNat, deck := c.deck.toNat
    lanes := sortedLanes c.lanes, gap := c.gap, tolerance := c.tolerance
    unidentifiedWeight := c.unidentifiedWeight, bayWeightLimit := c.bayWeightLimit
    scanOrder := c.scanOrder.map Int.toNat, mtLim := c.mtLim, mlMin := c.mlMin, mlMax := c.mlMax
    baseMT := c.baseMT, baseML := c.baseML, wF := c.wF, wD := c.wD, wH := c.wH
    awardGrace := c.awardGrace.toNat, congestHigh := c.congestHigh.toNat
    congestLow := c.congestLow.toNat, travelLimit := c.travelLimit.toNat
    lashClass := c.lashClass.toNat, alarmMask := c.alarmMask.map Int.toNat
    listenInterval := c.listenInterval.toNat, offerWindow := c.offerWindow.toNat
    deckMask := c.deckMask &&& 0x3F, attemptLimit := c.attemptLimit.toNat
    recallDelay := c.recallDelay.toNat, holdHigh := c.holdHigh.toNat, holdLow := c.holdLow.toNat }

/-- The outcome of reading the configuration store at a start: the configuration in force, and whether a
field was discarded, clamped or replaced; none when the node is left UNCONFIGURED (R178). -/
def loadConfig (c : ConfigStore) : Option (Conf × Bool) :=
  if ConfigStore.unusable c then none
  else some (ConfigStore.conf (ConfigStore.loaded c), decide (ConfigStore.loaded c ≠ c))

/-! ## Restoration (R24, R180) -/

/-- A lane copy is in use at the start: its U is the sum over its records (R9) and its socket count is
within the configured one (R10). -/
def LaneCopy.sound (gap : Int) (c : LaneConf) (k : LaneCopy) : Bool :=
  decide (k.used = extentSum gap k.placed) && decide (k.sockets ≤ c.sockets)

/-- A restored record: a LASHING one has its lash timer started at the full lash limit (R117, R180). -/
def Record.restored (lashDue : Nat) (r : Record) : Record :=
  { r with lashDue := if r.status = .lashing then some lashDue else none }

/-- A lane with nothing in it, in a stored state (R24). -/
def emptyLane (c : LaneConf) (st : LaneState) : Lane :=
  { number := c.number, conf := c, stored := st, suspect := false, placed := [], used := 0
    sockets := 0 }

/-- A lane after a start, by the state of its copy: no content, valid or invalid (R24). -/
def restoreLane (gap : Int) (lashDue : Nat) (c : LaneConf) (k : Kept LaneCopy) : Lane :=
  match k with
  | .blank => emptyLane c (OpenClosed.asStored c.firstState)
  | .invalid => emptyLane c .opened
  | .valid v =>
    if v.sound gap c then
      { number := c.number, conf := c, stored := v.stored, suspect := false
        placed := v.placed.map (Record.restored lashDue), used := v.used, sockets := v.sockets }
    else emptyLane c .opened

/-- A lane's copy is written at the start: at a first start, and for an invalid copy (R24, R180). -/
def writtenAtStart (gap : Int) (c : LaneConf) (k : Kept LaneCopy) : Bool :=
  match k with
  | .blank => true
  | .invalid => true
  | .valid v => !(v.sound gap c)

/-- What the retained copy keeps of a lane number (R179). -/
def Retained.keptLane (r : Retained) (n : Nat) : Kept LaneCopy :=
  match r.lanes.find? fun p => decide (p.number = n) with
  | some p => p.part.kept
  | none => .blank

/-- A restored inbound entry: INTERRUPTED present and the travel timer at the full limit (R13, R180). -/
def Inbound.restored (travelDue : Nat) (e : Inbound) : Inbound :=
  { e with travelDue := some travelDue, interrupted := true }

/-- An inbound entry is kept at restoration: its lane has a record, and its booking stands in no
restored placed record (R14, R180). -/
def keepsEntry (ls : List Lane) (e : Inbound) : Bool :=
  ls.any (fun l => decide (l.number = e.lane)) &&
    !(ls.any fun l => l.placed.any fun r => decide (r.booking = some e.arrival.booking))

/-- The inbound entries the retained copy gives (R180). -/
def Retained.keptInbound (r : Retained) : List Inbound :=
  match r.inbound.kept with
  | .valid es => es
  | .blank => []
  | .invalid => []

/-- The inbound list copy is written at the start: entries were discarded, the copy was invalid, or at a
first start (R180). -/
def Retained.inboundWritten (r : Retained) (ls : List Lane) : Bool :=
  match r.inbound.kept with
  | .valid es => !(es.all (keepsEntry ls))
  | .blank => true
  | .invalid => true

/-- The Lane Table restored from the retained copy (R24, R180). -/
def restoredTable (now : Nat) (c : Conf) (r : Retained) : LaneTable :=
  let ls := c.lanes.map fun k =>
    restoreLane c.gap (now + 1000 * lashLimit c.lashClass) k (r.keptLane k.number)
  { lanes := ls
    reservations := []
    inbound := (r.keptInbound.filter (keepsEntry ls)).map
      (Inbound.restored (now + 1000 * c.travelLimit)) }

/-- The state a start leaves behind of what it discards: each block at its value after every start, the
configuration store, the retained copy, the clock and the outputs on the lines standing (R177). -/
def State.discarded (s : State) : State :=
  { now := s.now, stopLine := s.stopLine, gradientPin := s.gradientPin, life := .running
    node := .unconfigured, store := s.store, conf := s.conf, table := LaneTable.empty
    eval := Evaluator.idle, tally := TallyUnit.initial, dli := Dli.initial
    rounds := RoundController.initial, conditions := [], sensor := SensorPort.initial
    listenDue := none, retained := { s.retained with stopped := false }, out := s.out
    handed := s.handed, pending := s.pending }

/-- Restoration at a bay (R180). -/
def State.restoreBay (s : State) : State :=
  let t := restoredTable s.now s.conf s.retained
  let k := s.retained.node.read
  let s := s.setTable t
  let s := s.setTally { s.tally with
    callNumber := k.callNumber, seq := k.tallySeq, ownT := t.sumT, ownL := t.sumL }
  s.setEval { s.eval with
    congested := decide (s.conf.congestHigh ≤ t.inbound.length) }

/-- Restoration at a ramp (R180). -/
def State.restoreRamp (s : State) : State :=
  let k := s.retained.node.read
  let s := s.setTally { s.tally with callNumber := k.callNumber }
  s.setRounds { s.rounds with seq := k.roundSeq, gradient := s.gradientPin }

/-! ## The stop line at a bay (R23, R170) -/

/-- A lane through a rising edge of the stop line (R23). -/
def Lane.stopped (l : Lane) : Lane :=
  { l with
    suspect := false
    stored := match l.stored with
      | .opened => .closed
      | .closed => .closed
      | .fault _ => .fault .closed }

/-- The numbers of the lanes whose stored or remembered state a rising edge changes (R23). -/
def LaneTable.stopChanges (t : LaneTable) : List Nat :=
  (t.lanes.filter fun l => decide (l.stopped.stored ≠ l.stored)).map (·.number)

/-- Hands on changes of stored or remembered state of some lanes (R18). -/
def State.handStates (ns : List Nat) (s : State) : State :=
  match ns with
  | [] => s
  | _ :: _ => ns.foldl (fun st n => st.handLane n) s.handTally

/-- A rising edge of the stop line at a bay (R170). -/
def State.stopBay (s : State) : State :=
  let changed := s.table.stopChanges
  let s := s.abandonAll
  let s := (s.setTable { s.table with lanes := s.table.lanes.map Lane.stopped }).handStates changed
  s.releaseAll

/-- A rising edge of the stop line at a configured node: STOP is raised, and the edge acts on the blocks
of the role (R169). -/
def State.stopEdge (s : State) : State :=
  let s := s.raise .stop none
  match s.conf.role with
  | .bay => s.stopBay
  | .ramp => s.abandonRound

/-! ## The entry to LISTEN (R181) -/

/-- The conditions a lane's restored flags raise (R181). -/
def State.raiseRestored (s : State) (l : Lane) : State :=
  let has (f : Flag → Bool) : Bool := l.placed.any fun r => r.flags.any f
  let s := if has Flag.isBreach then s.raise .placementBreach (some l.number) else s
  let s := if has (fun f => decide (f = .misdirected))
    then s.raise .misdirected (some l.number) else s
  if has (fun f => decide (f = .overcarried)) then s.raise .overcarried (some l.number) else s

/-- A lane is in FAULT (R2). -/
def Lane.inFault (l : Lane) : Bool :=
  match l.stored with
  | .fault _ => true
  | .opened => false
  | .closed => false

/-- The conditions raised at a bay's entry to LISTEN (R181). -/
def State.raiseAtStart (s : State) : State :=
  let s := (s.table.lanes.filter Lane.inFault).foldl
    (fun st l => st.raise .laneFault (some l.number)) s
  s.table.lanes.foldl State.raiseRestored s

/-- The copy writes that a bay begins at the entry to LISTEN (R24, R180). -/
def State.handStartWrites (s : State) : State :=
  let ns := (s.conf.lanes.filter fun c =>
    writtenAtStart s.conf.gap c (s.retained.keptLane c.number)).map (·.number)
  let s := ns.foldl (fun st n => st.handLane n) s
  if s.retained.inboundWritten s.table.lanes then s.handInbound else s

/-- The entry to LISTEN (R181). -/
def State.enterListen (altered : Bool) (s : State) : State :=
  let s := s.setNode .listen
  let s := if altered then s.raise .configClamped none else s
  let s :=
    match s.conf.role with
    | .bay => s.raiseAtStart.handStartWrites
    | .ramp => s
  let s := if s.stopLine then s.stopEdge else s
  let s :=
    match s.conf.role with
    | .bay => s.requestSurvey.handTally
    | .ramp => s
  s.setListenDue (some (s.now + 1000 * s.conf.listenInterval))

/-- A start, with the levels found on the discrete inputs (R177, R178, R180, R181). A start that leaves the
node UNCONFIGURED samples no gradient class, the model's DESIGN CHOICE where R107 and R178 leave it open (log
entry 34). -/
def State.takeStart (stopHigh : Bool) (gradient : Fin 4) (s : State) : State :=
  let s := (s.discarded.setStopLine stopHigh).setGradientPin gradient
  match loadConfig s.store with
  | none => s
  | some (c, altered) =>
    let s := s.setConf c
    let s :=
      match c.role with
      | .bay => s.restoreBay
      | .ramp => s.restoreRamp
    s.enterListen altered

/-- A start is due: power has returned, or a PANEL RESET has drained its writes (R177). -/
def State.startDue (s : State) : Bool :=
  match s.life with
  | .running => false
  | .starting => true
  | .closing => !s.retained.writeInFlight

/-- PANEL RESET: answered TAKEN, and the node closes. While it is closed it takes no panel command
(R177). -/
def State.takePanelReset (s : State) : State :=
  match s.life with
  | .running => (s.answer .taken).setLife .closing
  | .closing => s
  | .starting => s

/-- Power returns: the writes in flight when it was lost are broken, and a start is due (R177). -/
def State.takePowerOn (s : State) : State :=
  (s.setRetained s.retained.broken).setLife .starting

/-- A configuration write over the service line completes (R178). -/
def State.takeConfigWrite (c : ConfigStore) (s : State) : State :=
  (s.setStore c).setRetained Retained.emptied

/-! ## The meanings -/

/-- POWER_ON (R177). -/
def execPowerOn (s : State) : Host.Outcome State Fault Refusal := .next (s.event State.takePowerOn)

/-- PANEL_RESET (R177). -/
def execPanelReset (s : State) : Host.Outcome State Fault Refusal :=
  .next (s.event State.takePanelReset)

/-- START (R177): a start is taken when one is due. -/
def execStart (stopHigh : Bool) (gradient : Fin 4) (s : State) :
    Host.Outcome State Fault Refusal :=
  .next (s.event fun s => if s.startDue then s.takeStart stopHigh gradient else s)

/-- CONFIGURATION_WRITE (R178). -/
def execConfigurationWrite (c : ConfigStore) (s : State) : Host.Outcome State Fault Refusal :=
  .next (s.event (State.takeConfigWrite c))

/-- COPY_WRITE_COMPLETION (R179): also while the node is closed for a PANEL RESET (R177). -/
def execCopyWriteCompletion (part : CopyPart) (s : State) : Host.Outcome State Fault Refusal :=
  .next (s.event (State.completeWrite part))

end Sys2Proof.Machine
end

