-- ==== Sys2Proof/Machine/Panel.lean ====
section
/-! DEFINITION. The crew commands of the panel line (R19 to R22, R114, R115, R133, R168) and the changes
of the discrete inputs (R107, R169). -/

namespace Sys2Proof.Machine

open Sys2Proof

/-! ## Commands of the panel line -/

/-- A panel command reaches a node that is not closed (R177): the node answers it. -/
def State.panelCommand (f : State → State) (s : State) : State :=
  match s.life with
  | .running => f s
  | .closing => s
  | .starting => s

/-- A lane command: refused at a ramp, in UNCONFIGURED and for a lane number with no lane record (R19). -/
def State.laneCommand (n : Nat) (act : Lane → State → State) (s : State) : State :=
  s.panelCommand fun s =>
    if s.IsBay then
      match s.table.lane? n with
      | none => s.answer .refused
      | some l => act l s
    else s.answer .refused

/-- A lane's stored state is changed and handed on (R18). -/
def State.changeStored (n : Nat) (st : LaneState) (s : State) : State :=
  ((s.updateLane n (Lane.withStored st)).handTally).handLane n

/-- OPEN on a lane (R20). -/
def State.openOne (l : Lane) (s : State) : State :=
  match l.stored with
  | .opened => s.answer .taken
  | .closed => (s.changeStored l.number .opened).answer .taken
  | .fault _ => s.answer .refused

/-- CLOSE on a lane (R21). -/
def State.closeOne (l : Lane) (s : State) : State :=
  let s := s.updateLane l.number Lane.withoutMark
  match l.stored with
  | .opened => (s.changeStored l.number .closed).answer .taken
  | .closed => s.answer .taken
  | .fault .closed => s.answer .taken
  | .fault .opened => (s.changeStored l.number (.fault .closed)).answer .taken

/-- A lane through OPEN ALL (R20). -/
def Lane.openedAll (l : Lane) : Lane :=
  match l.stored with
  | .closed => l.withStored .opened
  | .opened => l
  | .fault _ => l

/-- OPEN ALL at a bay (R20). -/
def State.openEvery (s : State) : State :=
  let changed := (s.table.lanes.filter fun l => decide (l.stored = .closed)).map (·.number)
  ((s.setTable { s.table with lanes := s.table.lanes.map Lane.openedAll }).handStates
    changed).answer .taken

/-- A placed list, tail first, with a rank given to its first rankless UNIDENTIFIED record (R22). -/
def giveRank (rank : Nat) : List Record → Option (List Record)
  | [] => none
  | r :: rs =>
    if r.rankless then some ({ r with rank := some rank } :: rs)
    else (giveRank rank rs).map (r :: ·)

/-- A placed list with a rank given to its rearmost rankless UNIDENTIFIED record (R22). -/
def giveRankRearmost (rank : Nat) (rs : List Record) : Option (List Record) :=
  (giveRank rank rs.reverse).map List.reverse

/-- RELEASE on a lane (R19, R22). -/
def State.releaseOne (rank : Nat) (l : Lane) (s : State) : State :=
  if s.node = .withdrawn ∨ rank < 1 ∨ 15 < rank then s.answer .refused
  else
    match giveRankRearmost rank l.placed with
    | none => s.answer .refused
    | some rs =>
      (((s.updateLane l.number fun k => { k with placed := rs }).handRestart).handLane
        l.number).answer .taken

/-- A record through LASH CONFIRM (R133). -/
def Record.confirmed (r : Record) : Record :=
  match r.status with
  | .lashing => { r with status := .lashed, lashDue := none }
  | .unlashed => { r with status := .lashed, lashDue := none }
  | .lashed => r
  | .unidentified => r

/-- LASH CONFIRM on a lane (R133). -/
def State.confirmOne (l : Lane) (s : State) : State :=
  let s' := (s.updateLane l.number fun k =>
    { k with placed := k.placed.map Record.confirmed }).clear .lashUnconfirmed (some l.number)
  if l.placed.any fun r => decide (r.confirmed.status ≠ r.status) then
    (s'.handLane l.number).answer .taken
  else s'.answer .taken

/-- ACK (R168): the condition the display shows is removed when its code is cleared by ACK. At a ramp an
ACK that clears STOP is an event at which R82 looks. -/
def State.takeAck (s : State) : State :=
  s.panelCommand fun s =>
    if s.node = .unconfigured then s.answer .refused
    else
      match shownCondition s.conf.alarmMask s.conditions with
      | none => s.answer .taken
      | some c =>
        if c.code.clearedByAck then
          let s := (s.clear c.code c.lane).answer .taken
          if c.code = .stop ∧ s.conf.role = .ramp then s.handLook else s
        else s.answer .taken

/-- ADVANCE PORT (R114, R115). -/
def State.takeAdvance (s : State) : State :=
  s.panelCommand fun s =>
    if s.IsRamp ∧ s.node = .active then
      match s.rounds.openRound with
      | none => s.actOnAdvance.answer .taken
      | some _ =>
        if s.rounds.heldAdvance then s.answer .refused
        else (s.setRounds { s.rounds with heldAdvance := true }).answer .taken
    else s.answer .refused

/-- OPEN (R20). -/
def execOpenLane (n : Nat) (s : State) : Host.Outcome State Fault Refusal :=
  .next (s.event (State.laneCommand n State.openOne))

/-- CLOSE (R21). -/
def execCloseLane (n : Nat) (s : State) : Host.Outcome State Fault Refusal :=
  .next (s.event (State.laneCommand n State.closeOne))

/-- OPEN_ALL (R20). -/
def execOpenAll (s : State) : Host.Outcome State Fault Refusal :=
  .next (s.event (State.panelCommand fun s =>
    if s.IsBay then s.openEvery else s.answer .refused))

/-- RELEASE (R22). -/
def execRelease (n rank : Nat) (s : State) : Host.Outcome State Fault Refusal :=
  .next (s.event (State.laneCommand n (State.releaseOne rank)))

/-- LASH_CONFIRM (R133). -/
def execLashConfirm (n : Nat) (s : State) : Host.Outcome State Fault Refusal :=
  .next (s.event (State.laneCommand n State.confirmOne))

/-- ACK (R168). -/
def execAck (s : State) : Host.Outcome State Fault Refusal := .next (s.event State.takeAck)

/-- ADVANCE_PORT (R115). -/
def execAdvancePort (s : State) : Host.Outcome State Fault Refusal :=
  .next (s.event State.takeAdvance)

/-! ## Changes of the discrete inputs -/

/-- STOP_LINE_RISING_EDGE (R169): not acted on while the node is closed or UNCONFIGURED (R177, R169). -/
def execStopLineRisingEdge (s : State) : Host.Outcome State Fault Refusal :=
  .next (s.event fun s =>
    let s := s.setStopLine true
    if s.Configured then s.stopEdge else s)

/-- GRADIENT_CLASS_CHANGE (R107): sampled at a configured ramp, where R82 then looks. A closed node does not
act on its inputs (R177); that an UNCONFIGURED node keeps the level of the input alone, and no class, is the
model's DESIGN CHOICE (log entry 34). -/
def execGradientClassChange (g : Fin 4) (s : State) : Host.Outcome State Fault Refusal :=
  .next (s.event fun s =>
    let s := s.setGradientPin g
    if s.IsRamp then (s.setRounds { s.rounds with gradient := g }).handLook else s)

end Sys2Proof.Machine
end

