-- ==== Sys2Proof/Machine/Sensors.lean ====
section
/-! DEFINITION. Messages of the sensor line at a bay: ENTER, LEAVE, FAULT, CLEAR, LEVEL and END (R120,
R162, R171, R173, R176). A ramp, an UNCONFIGURED node and a closed node discard them, and any node
discards one whose check word disagrees or whose code or length is none of the line's. -/

namespace Sys2Proof.Machine

open Sys2Proof

/-- A sensor line message as a bay takes it (R162, R177). -/
def State.sensorMessage (agrees : Bool) (take : State → State) (s : State) : State :=
  if s.IsBay ∧ agrees = true then take s else s

/-- ENTER and LEAVE by the node state: withheld in WITHDRAWN, taken otherwise (R120, R176). -/
def State.unlessWithdrawn (take : State → State) (s : State) : State :=
  if s.node = .withdrawn then s.withhold else take s

/-- FAULT on a lane (R171). -/
def State.takeFault (n : Nat) (s : State) : State :=
  match s.table.lane? n with
  | none => s
  | some l =>
    match l.stored with
    | .opened => s.updateLane n Lane.withMark
    | .closed => s.updateLane n Lane.withMark
    | .fault _ => s

/-- CLEAR on a lane (R171). -/
def State.takeClear (n : Nat) (s : State) : State :=
  match s.table.lane? n with
  | none => s
  | some l =>
    let s := s.updateLane n Lane.withoutMark
    match l.stored with
    | .opened => s
    | .closed => s
    | .fault r =>
      (((s.updateLane n (Lane.withStored (OpenClosed.asStored r))).handTally).handLane n).clear
        .laneFault (some n)

/-- LEVEL and END while a survey is outstanding and the node is not WITHDRAWN; ignored otherwise
(R173, R176). -/
def State.inSurvey (take : State → State) (s : State) : State :=
  if s.sensor.surveyDue ≠ none ∧ s.node ≠ .withdrawn then take s else s

/-- ENTER (R121). -/
def execEnter (lane : Byte) (m : Word16) (check : RxCheck) (s : State) : Host.Outcome State Fault Refusal :=
  .next (s.event (State.sensorMessage (sensorAgrees 1 lane m check)
    (State.unlessWithdrawn (State.takeEnter lane.toNat (m.toNat : Int)))))

/-- LEAVE (R134). -/
def execLeave (lane : Byte) (m : Word16) (check : RxCheck) (s : State) : Host.Outcome State Fault Refusal :=
  .next (s.event (State.sensorMessage (sensorAgrees 2 lane m check)
    (State.unlessWithdrawn (State.takeLeave lane.toNat (m.toNat : Int)))))

/-- FAULT (R171). -/
def execSensorFault (lane : Byte) (check : RxCheck) (s : State) :
    Host.Outcome State Fault Refusal :=
  .next (s.event (State.sensorMessage (sensorLaneAgrees 3 lane check)
    (State.takeFault lane.toNat)))

/-- CLEAR (R171). -/
def execSensorClear (lane : Byte) (check : RxCheck) (s : State) :
    Host.Outcome State Fault Refusal :=
  .next (s.event (State.sensorMessage (sensorLaneAgrees 4 lane check)
    (State.takeClear lane.toNat)))

/-- LEVEL (R174). -/
def execLevel (lane : Byte) (m : Word16) (check : RxCheck) (s : State) : Host.Outcome State Fault Refusal :=
  .next (s.event (State.sensorMessage (sensorAgrees 5 lane m check)
    (State.inSurvey (State.takeLevel lane.toNat (m.toNat : Int)))))

/-- END (R175). -/
def execSurveyEnd (check : RxCheck) (s : State) : Host.Outcome State Fault Refusal :=
  .next (s.event (State.sensorMessage (messageAgrees [6] check)
    (State.inSurvey State.takeEnd)))

end Sys2Proof.Machine
end

