-- ==== Sys2Proof/Machine/Timers.lean ====
section
/-! DEFINITION. The events of the block's own timers and of the evaluation in flight. A timer's event
finds its timer running, or nothing to act on; the clock has then reached the time the timer was set
to (log entry 1). While the node is closed its timers are stopped (R177). -/

namespace Sys2Proof.Machine

open Sys2Proof

/-- The booking is that of an inbound entry whose travel timer runs. -/
def Inbound.travels (b : Nat) (e : Inbound) : Bool :=
  decide (e.arrival.booking = b) && e.travelDue.isSome

/-- The record of a booking whose lash timer runs (R131). -/
def Record.lashRuns (b : Nat) (r : Record) : Bool :=
  decide (r.booking = some b) && decide (r.status = .lashing) && r.lashDue.isSome

/-! ## Evaluation (R73, R75) -/

/-- The evaluation in flight is cut off at its deadline, and the next CALL is taken (R73). -/
def State.cutOff (s : State) : State := s.endEvaluation.takeNextCall

/-- The completion of the evaluation in flight, if there is one (R75). A deadline that the clock has
passed came before the completion: the evaluation has been cut off and completes no more. At the
deadline itself either may be taken first, and this is the completion taken first (R73). -/
def State.takeCompletion (s : State) : State :=
  match s.eval.inFlight with
  | none => s
  | some v => if v.call.deadline < s.now then s.cutOff else s.completeEvaluation v

/-- The deadline of the CALL of a round expires: its evaluation, if it is the one in flight, is cut off;
any other evaluation is not touched (R73). -/
def State.takeDeadline (r : RoundId) (s : State) : State :=
  match s.eval.inFlight with
  | none => s
  | some v => if v.call.round = r then (s.reach v.call.deadline).cutOff else s

/-! ## Reservations and rounds (R85, R97, R106) -/

/-- The expiry time of a round's reservation (R97). -/
def State.expireReservation (r : RoundId) (s : State) : State :=
  match s.table.reservations.find? fun x => decide (x.round = r) with
  | none => s
  | some x => (s.reach x.expiry).releaseRound r

/-- The expiry of the window timer of the open round (R85); a stopped timer does not expire (R83). -/
def State.takeWindowExpiry (s : State) : State :=
  match s.rounds.openRound with
  | none => s
  | some o =>
    match o.windowDue with
    | none => s
    | some due => (s.reach due).expireWindow o

/-- The passing of a waiting entry's not-before time (R106). -/
def State.passNotBefore (b : Nat) (s : State) : State :=
  match s.rounds.waiting.find? fun w => decide (w.arrival.booking = b) with
  | none => s
  | some w =>
    match w.notBefore with
    | none => s
    | some due => (s.reach due).handLook

/-! ## Travel and lash timers (R118, R119, R132) -/

/-- The expiry of an entry's travel timer in LISTEN, ACTIVE or RECOVERY, its four steps in turn (R119). -/
def State.entryMissing (e : Inbound) (s : State) : State :=
  let s := s.removeInbound e
  let s := s.handIn (.noticeMissing
    { round := e.round, booking := BitVec.ofNat 40 e.arrival.booking })
  let s := s.raise .inboundMissing (some e.lane)
  (((s.handRestart).handTally).handInbound).followCongestion

/-- The expiry of an entry's travel timer; in WITHDRAWN it is not acted on and the entry stays
(R118, R119). -/
def State.takeTravelExpiry (b : Nat) (s : State) : State :=
  match s.table.inbound.find? (Inbound.travels b) with
  | none => s
  | some e =>
    match e.travelDue with
    | none => s
    | some due =>
      let s := s.reach due
      if s.node = .withdrawn then
        s.setTable { s.table with
          inbound := s.table.inbound.map fun x =>
            if x = e then { x with travelDue := none } else x }
      else s.entryMissing e

/-- A record through the expiry of its lash timer (R132). -/
def Record.unlash (b : Nat) (r : Record) : Record :=
  if r.lashRuns b then { r with status := .unlashed, lashDue := none } else r

/-- The expiry of a record's lash timer (R132). -/
def State.takeLashExpiry (b : Nat) (s : State) : State :=
  match s.table.lanes.find? fun l => l.placed.any (Record.lashRuns b) with
  | none => s
  | some l =>
    match l.placed.find? (Record.lashRuns b) with
    | none => s
    | some r =>
      match r.lashDue with
      | none => s
      | some due =>
        ((((s.reach due).updateLane l.number fun k =>
          { k with placed := k.placed.map (Record.unlash b) }).raise
            .lashUnconfirmed (some l.number)).handLane l.number)

/-! ## Surveys, the listen interval and TALLYs (R140, R142, R175, R183) -/

/-- The expiry of the survey timer (R173, R175, R182). -/
def State.takeSurveyExpiry (s : State) : State :=
  match s.sensor.surveyDue with
  | none => s
  | some due => (s.reach due).expireSurvey

/-- The end of the listen interval (R183). -/
def State.takeListenEnd (s : State) : State :=
  match s.listenDue with
  | none => s
  | some due => ((s.reach due).setListenDue none).maybeActive

/-- The TALLY period ends (R140): in NORMAL, when a last build time is set. -/
def State.takeTallyPeriod (s : State) : State :=
  match s.dli.line, s.tally.lastBuild with
  | .normal, some t => (s.reach (t + Config.tallyPeriod)).buildTally
  | .normal, none => s
  | .silent, _ => s

/-- The clock at the end of the spacing since the last build (R140). -/
def State.reachSpacing (s : State) : State :=
  match s.tally.lastBuild with
  | none => s
  | some t => s.reach (t + Config.tallySpacing)

/-- The TALLY spacing ends: with the pending change present and the line NORMAL a TALLY is built (R140). -/
def State.takeTallySpacing (s : State) : State :=
  if s.tally.pendingChange = true ∧ s.dli.line = .normal then s.reachSpacing.buildTally else s

/-- A peer entry passes 30 s of age: the clock has passed it, so that the entry is stale (R142). -/
def State.takePeerStale (bay : Nat) (s : State) : State :=
  match s.tally.peers.find? fun e => decide (e.tally.bay.toNat = bay) with
  | none => s
  | some e => s.reach (e.acceptedAt + Config.staleAge + 1)

/-! ## The meanings -/

/-- SURVEY_TIMER_EXPIRY (R175). -/
def execSurveyTimerExpiry (s : State) : Host.Outcome State Fault Refusal :=
  .next (s.event fun s => if s.IsBay then s.takeSurveyExpiry else s)

/-- LISTEN_INTERVAL_END (R183). -/
def execListenIntervalEnd (s : State) : Host.Outcome State Fault Refusal :=
  .next (s.event fun s => if s.Configured then s.takeListenEnd else s)

/-- EVALUATION_COMPLETION (R75). -/
def execEvaluationCompletion (s : State) : Host.Outcome State Fault Refusal :=
  .next (s.event fun s => if s.IsBay then s.takeCompletion else s)

/-- DEADLINE_EXPIRY (R73). -/
def execDeadlineExpiry (s : State) (round : RoundId) : Host.Outcome State Fault Refusal :=
  .next (s.event fun s => if s.IsBay then s.takeDeadline round else s)

/-- RESERVATION_EXPIRY (R97). -/
def execReservationExpiry (r : RoundId) (s : State) : Host.Outcome State Fault Refusal :=
  .next (s.event fun s => if s.IsBay then s.expireReservation r else s)

/-- WINDOW_TIMER_EXPIRY (R85). -/
def execWindowTimerExpiry (s : State) : Host.Outcome State Fault Refusal :=
  .next (s.event fun s => if s.IsRamp then s.takeWindowExpiry else s)

/-- NOT_BEFORE_TIME_PASSES (R106). -/
def execNotBeforeTimePasses (b : Nat) (s : State) : Host.Outcome State Fault Refusal :=
  .next (s.event fun s => if s.IsRamp then s.passNotBefore b else s)

/-- TRAVEL_TIMER_EXPIRY (R119). -/
def execTravelTimerExpiry (b : Nat) (s : State) : Host.Outcome State Fault Refusal :=
  .next (s.event fun s => if s.IsBay then s.takeTravelExpiry b else s)

/-- LASH_TIMER_EXPIRY (R132). -/
def execLashTimerExpiry (b : Nat) (s : State) : Host.Outcome State Fault Refusal :=
  .next (s.event fun s => if s.IsBay then s.takeLashExpiry b else s)

/-- TALLY_PERIOD (R140). -/
def execTallyPeriod (s : State) : Host.Outcome State Fault Refusal :=
  .next (s.event fun s => if s.IsBay then s.takeTallyPeriod else s)

/-- TALLY_SPACING_END (R140). -/
def execTallySpacingEnd (s : State) : Host.Outcome State Fault Refusal :=
  .next (s.event fun s => if s.IsBay then s.takeTallySpacing else s)

/-- PEER_ENTRY_STALE (R142). -/
def execPeerEntryStale (bay : Nat) (s : State) : Host.Outcome State Fault Refusal :=
  .next (s.event fun s => if s.IsBay then s.takePeerStale bay else s)

end Sys2Proof.Machine
end

