-- ==== Sys2Proof/Machine/Dispatch.lean ====
section
/-! DEFINITION. The dispatch of the commands to their meanings: one arm per constructor of Instr. -/

namespace Sys2Proof.Machine

open Sys2Proof

def exec (i : Instr) (s : State) : Host.Outcome State Fault Refusal :=
  match i with
  | .powerOn => Sys2Proof.Machine.execPowerOn s
  | .panelReset => Sys2Proof.Machine.execPanelReset s
  | .start stopHigh gradient => Sys2Proof.Machine.execStart stopHigh gradient s
  | .configurationWrite store => Sys2Proof.Machine.execConfigurationWrite store s
  | .openLane lane => Sys2Proof.Machine.execOpenLane lane s
  | .closeLane lane => Sys2Proof.Machine.execCloseLane lane s
  | .openAll => Sys2Proof.Machine.execOpenAll s
  | .release lane rank => Sys2Proof.Machine.execRelease lane rank s
  | .lashConfirm lane => Sys2Proof.Machine.execLashConfirm lane s
  | .ack => Sys2Proof.Machine.execAck s
  | .advancePort => Sys2Proof.Machine.execAdvancePort s
  | .stopLineRisingEdge => Sys2Proof.Machine.execStopLineRisingEdge s
  | .gradientClassChange gradient => Sys2Proof.Machine.execGradientClassChange gradient s
  | .arrival record check => Sys2Proof.Machine.execArrival record check s
  | .call header payload => Sys2Proof.Machine.execCall header payload s
  | .offer header payload => Sys2Proof.Machine.execOffer header payload s
  | .award header payload => Sys2Proof.Machine.execAward header payload s
  | .decline header payload => Sys2Proof.Machine.execDecline header payload s
  | .placed header payload => Sys2Proof.Machine.execPlaced header payload s
  | .noticeMissing header payload => Sys2Proof.Machine.execNoticeMissing header payload s
  | .tally header payload => Sys2Proof.Machine.execTally header payload s
  | .noticeWithdrawn header => Sys2Proof.Machine.execNoticeWithdrawn header s
  | .portcall header number => Sys2Proof.Machine.execPortcall header number s
  | .enter lane m check => Sys2Proof.Machine.execEnter lane m check s
  | .leave lane m check => Sys2Proof.Machine.execLeave lane m check s
  | .sensorFault lane check => Sys2Proof.Machine.execSensorFault lane check s
  | .sensorClear lane check => Sys2Proof.Machine.execSensorClear lane check s
  | .level lane m check => Sys2Proof.Machine.execLevel lane m check s
  | .surveyEnd check => Sys2Proof.Machine.execSurveyEnd check s
  | .surveyTimerExpiry => Sys2Proof.Machine.execSurveyTimerExpiry s
  | .listenIntervalEnd => Sys2Proof.Machine.execListenIntervalEnd s
  | .transmitStart rivals => Sys2Proof.Machine.execTransmitStart rivals s
  | .attemptEnd acknowledged => Sys2Proof.Machine.execAttemptEnd acknowledged s
  | .probeTime => Sys2Proof.Machine.execProbeTime s
  | .evaluationCompletion => Sys2Proof.Machine.execEvaluationCompletion s
  | .deadlineExpiry round => Sys2Proof.Machine.execDeadlineExpiry s round
  | .reservationExpiry round => Sys2Proof.Machine.execReservationExpiry round s
  | .windowTimerExpiry => Sys2Proof.Machine.execWindowTimerExpiry s
  | .notBeforeTimePasses booking => Sys2Proof.Machine.execNotBeforeTimePasses booking s
  | .travelTimerExpiry booking => Sys2Proof.Machine.execTravelTimerExpiry booking s
  | .lashTimerExpiry booking => Sys2Proof.Machine.execLashTimerExpiry booking s
  | .tallyPeriod => Sys2Proof.Machine.execTallyPeriod s
  | .tallySpacingEnd => Sys2Proof.Machine.execTallySpacingEnd s
  | .peerEntryStale bay => Sys2Proof.Machine.execPeerEntryStale bay s
  | .copyWriteCompletion part => Sys2Proof.Machine.execCopyWriteCompletion part s

end Sys2Proof.Machine
end

