-- ==== Sys2Proof/Machine/Step.lean ====
section
/-! DEFINITION. One step of the block: the command at the front of the queue is taken and run with the
rest of the queue waiting. With no command waiting, the clock counts one millisecond (log entry 1). -/

namespace Sys2Proof.Machine

open Sys2Proof

/-- One millisecond passes while no command waits (log entry 1). -/
def State.tick (s : State) : State := s.setNow (s.now + 1)

/-- One step: next, fault or refusal. -/
def step (s : State) : Host.Outcome State Fault Refusal :=
  match s.pending with
  | [] => .next s.tick
  | c :: rest => exec c (s.setPending rest)

/-- `s` with the command that a word of the opcode table spells put at the front of its queue; `s` where
the word spells none. -/
def State.withFetchWord (s : State) (nbits w : Nat) : State :=
  match decodeTableWord nbits w with
  | none => s
  | some c => s.setPending (c :: s.pending)

end Sys2Proof.Machine
end

