-- ==== Sys2Proof/Machine/Display.lean ====
section
/-! DEFINITION. What the Panel Port shows: the lane lights (R4), the alarm display (R167), the ship
figures (R143) and the figures of the bay's and the ramp's panel (R68, R114, R142, R158, R164, R172,
R176). All of it is derived from the state and stored nowhere (log entry 25). A node that is closed
sends nothing on any line (R177), and an UNCONFIGURED node's lights and figures are dark (R178). -/

namespace Sys2Proof.Machine

open Sys2Proof

/-! ## Lane lights (R4) -/

/-- The stored state as a lane light shows it; a remembered state is not shown (R4). -/
inductive LightState where
  | opened | closed | fault
  deriving DecidableEq, Repr

/-- A lane light (R4). -/
structure LaneLight where
  state : LightState
  suspect : Bool
  held : Bool
  full : Bool
  deriving DecidableEq, Repr

/-- The stored state as shown (R4). -/
def LaneState.shown : LaneState → LightState
  | .opened => .opened
  | .closed => .closed
  | .fault _ => .fault

/-- The light of a lane, from the Lane Table itself (R4, R17). -/
def LaneTable.light (gap : Int) (t : LaneTable) (l : Lane) : LaneLight :=
  { state := l.stored.shown
    suspect := l.suspect
    held := t.stowage.held l.snap
    full := t.stowage.full gap l.snap }

/-- The light of a lane number; none where it is dark or there is no lane record (R4). -/
def State.laneLight (n : Nat) (s : State) : Option LaneLight :=
  if s.IsBay then (s.table.lane? n).map (s.table.light s.conf.gap) else none

/-! ## The alarm display (R167) -/

/-- What the alarm display shows (R167). -/
inductive AlarmDisplay where
  | unconfigured
  | quiet
  | shows (code : Code) (lane : Option Nat) (count : Nat)
  deriving DecidableEq, Repr

/-- The alarm output (R167). -/
def State.alarmDisplay (s : State) : AlarmDisplay :=
  if s.node = .unconfigured then .unconfigured
  else
    match shownCondition s.conf.alarmMask s.conditions with
    | none => .quiet
    | some c => .shows c.code c.lane c.count

/-- The number of entries in the condition list, masked ones included (R164). -/
def State.conditionCount (s : State) : Nat := s.conditions.length

/-! ## The bay's panel (R142, R143) -/

/-- The peer entries that the figures are formed from: all but that for the node's own bay number
(R141, R143). -/
def State.figurePeers (s : State) : List PeerEntry := otherPeers s.conf.nodeNumber s.tally.peers

/-- The ship figures of a bay's panel (R142, R143). -/
structure ShipFigures where
  peersHeard : Nat
  vehicles : Nat
  freeTotal : Int
  congestedPeers : Nat
  stalePeers : Nat
  withdrawnPeers : Nat
  weight : Int
  openLanes : Nat
  laggingPeers : Nat
  deriving DecidableEq, Repr

/-- The ship figures (R142, R143). -/
def State.shipFigures (s : State) : ShipFigures :=
  let ps := s.figurePeers
  { peersHeard := ps.length
    vehicles := s.table.vehicles + (ps.map fun e => e.tally.vehicles.toNat).sum
    freeTotal := s.table.freeTotal s.conf.gap + (ps.map fun e => (e.tally.freeTotal.toNat : Int)).sum
    congestedPeers := ps.countP fun e => decide (e.tally.congested = 1)
    stalePeers := ps.countP (PeerEntry.stale s.now)
    withdrawnPeers := ps.countP (·.withdrawn)
    weight := s.table.tallyWeight + (ps.map fun e => (e.tally.weight.toNat : Int)).sum
    openLanes := s.table.openLanes + (ps.map fun e => e.tally.openLanes.toNat).sum
    laggingPeers := ps.countP fun e => lags e.tally.callNumber s.tally.callNumber }

/-- The bay's own figures on its panel (R68, R138, R158, R164, R172, R176). -/
structure BayFigures where
  node : NodeState
  callNumber : Byte
  droppedCalls : Nat
  withheldEvents : Nat
  failures : Nat
  conditions : Nat
  ship : ShipFigures
  deriving DecidableEq, Repr

/-- The figures of a bay's panel; dark where the node is no configured, running bay. -/
def State.bayFigures (s : State) : Option BayFigures :=
  if s.IsBay then
    some
      { node := s.node, callNumber := s.tally.callNumber, droppedCalls := s.eval.dropped
        withheldEvents := s.sensor.withheld, failures := s.dli.failures
        conditions := s.conditionCount, ship := s.shipFigures }
  else none

/-! ## The ramp's panel (06_the_ramp_station 6.7, R114) -/

/-- The ramp's own figures on its panel (R107, R113, R114, R138, R158, R164). -/
structure RampFigures where
  calling : Bool
  waiting : Nat
  dispatched : Nat
  hold : Bool
  gradient : Fin 4
  callNumber : Byte
  advanceHeld : Bool
  failures : Nat
  conditions : Nat
  deriving DecidableEq, Repr

/-- The figures of a ramp's panel; dark where the node is no configured, running ramp (R114). -/
def State.rampFigures (s : State) : Option RampFigures :=
  if s.IsRamp then
    some
      { calling := s.rounds.openRound.isSome, waiting := s.rounds.waiting.length
        dispatched := s.rounds.dispatched.length, hold := s.rounds.hold
        gradient := s.rounds.gradient, callNumber := s.tally.callNumber
        advanceHeld := s.rounds.heldAdvance, failures := s.dli.failures
        conditions := s.conditionCount }
  else none

end Sys2Proof.Machine
end

