-- ==== Sys2Proof/Safety.lean ====
section
/-! DEFINITION. What counts as a safe state of the block, in the terms the claims use: the bounds of its
lists, the sums that agree with what they count, what it promises and when, the order of its queues.
Each is a property of one state; that every step keeps it is claimed in Certificates/Slice0. At the end
stand the words in which the claims say what an event hands on (R18, R140, R179). -/

namespace Sys2Proof.Machine

open Sys2Proof

/-! ## The Lane Table -/

/-- No two lanes of the table share a lane number (R1). -/
abbrev LaneTable.Distinct (t : LaneTable) : Prop := (t.lanes.map (·.number)).Nodup

/-- Every lane's U is the sum of length plus gap over its placed records (R9), and its sockets in use do
not exceed its configured sockets (R10). -/
abbrev State.LaneSums (s : State) : Prop :=
  s.table.Distinct ∧
    ∀ l ∈ s.table.lanes, l.used = extentSum s.conf.gap l.placed ∧ l.sockets ≤ l.conf.sockets

/-- The own sums are the exact sums over placed records and inbound entries (R49). -/
abbrev State.Ledger (s : State) : Prop :=
  s.table.Distinct ∧ s.tally.ownT = s.table.sumT ∧ s.tally.ownL = s.table.sumL

/-- The front distances of a placed list whose first record stands `u` from the far end: each record stands
behind the lengths and gaps of those ahead of it (R5). -/
def frontsFrom (gap : Int) : Int → List Record → Bool
  | _, [] => true
  | u, r :: rs => decide (r.front = u) && frontsFrom gap (u + r.extent gap) rs

/-- What a part of the retained copy validly holds (R179). -/
def Kept.content? {α : Type} : Kept α → Option α
  | .valid c => some c
  | .blank => none
  | .invalid => none

/-- What a part of the retained copy holds or is writing satisfies `P`. -/
abbrev Part.Holds {α : Type} (P : α → Prop) (p : Part α) : Prop :=
  (∀ c ∈ p.kept.content?, P c) ∧ ∀ c ∈ p.writing, P c

/-- The front distance of every placed record is the sum of length plus gap over the records ahead of it,
and U that over all of them (R5, R9); the lane copies hold such lists for the gap of the store, and no
write is in flight in a retained copy that a configuration write has emptied (R178). -/
abbrev State.FrontsStand (s : State) : Prop :=
  s.table.Distinct ∧
  (∀ l ∈ s.table.lanes,
    frontsFrom s.conf.gap 0 l.placed = true ∧ l.used = extentSum s.conf.gap l.placed) ∧
  (∀ p ∈ s.retained.lanes,
    p.part.Holds fun c => frontsFrom (ConfigStore.loaded s.store).gap 0 c.placed = true) ∧
  (s.retained.stopped = false →
    s.table.lanes = [] ∨ s.conf.gap = (ConfigStore.loaded s.store).gap) ∧
  (s.retained.stopped = true → s.retained.writeInFlight = false)

/-- A record's rank, if it has one, lies in 0..15 (R11). -/
abbrev Record.RankBound (r : Record) : Prop := ∀ n ∈ r.rank, n ≤ 15

/-- Every rank held in a placed record, an inbound entry or a reservation lies in 0..15 (R11), and so
does every rank the retained copy holds of them. -/
abbrev State.RanksBounded (s : State) : Prop :=
  (∀ l ∈ s.table.lanes, ∀ r ∈ l.placed, r.RankBound) ∧
  (∀ e ∈ s.table.inbound, e.arrival.rank ≤ 15) ∧
  (∀ r ∈ s.table.reservations, r.arrival.rank ≤ 15) ∧
  (∀ p ∈ s.retained.lanes, p.part.Holds fun c => ∀ r ∈ c.placed, r.RankBound) ∧
  s.retained.inbound.Holds fun es => ∀ e ∈ es, e.arrival.rank ≤ 15

/-- The booking numbers the bay holds in placed records, inbound entries and reservations (R14). -/
abbrev LaneTable.bookings (t : LaneTable) : List Nat := t.stowage.bookings

/-- No booking number stands twice among reservations, inbound entries and placed records (R14), and the
snapshot of the evaluation in flight knows each of them. -/
abbrev State.BookingsOnce (s : State) : Prop :=
  s.table.Distinct ∧ s.table.bookings.Nodup ∧
    ∀ v ∈ s.eval.inFlight, ∀ b ∈ s.table.bookings, b ∈ v.snapshot.stowage.bookings

/-! ## Promises -/

/-- The bay may promise space: it is an ACTIVE bay whose line state is NORMAL (R12, R65). -/
abbrev State.MayPromise (s : State) : Prop :=
  s.conf.role = .bay ∧ s.node = .active ∧ s.dli.line = .normal

/-- No CALL is queued and no evaluation is in flight (R77). -/
abbrev Evaluator.Empty (e : Evaluator) : Prop := e.inFlight = none ∧ e.callQueue = []

/-- A node that may not promise holds no reservation, and neither it nor a congested bay has a CALL in
hand (R12, R77, R79); an IDLE evaluator's queue is empty (R64). -/
abbrev State.PromisesHeld (s : State) : Prop :=
  (¬ s.MayPromise → s.table.reservations = [] ∧ s.eval.Empty) ∧
  (s.eval.congested = true → s.eval.Empty) ∧
  (s.eval.inFlight = none → s.eval.callQueue = [])

/-- The evaluation in flight works on the reservations the Lane Table holds (R75). -/
abbrev State.SnapshotCurrent (s : State) : Prop :=
  ∀ v ∈ s.eval.inFlight, v.snapshot.stowage.reservations = s.table.reservations

/-! ## Capacities -/

/-- The offer list holds at most one offer of each bay number 1..48, and so at most 48 (R81, R84). -/
abbrev OpenRound.OffersBounded (o : OpenRound) : Prop :=
  (o.offers.map (·.bay)).Nodup ∧ (∀ x ∈ o.offers, 1 ≤ x.bay.toNat ∧ x.bay.toNat ≤ 48) ∧
    o.offers.length ≤ Config.maxOffers

/-- The peer table holds at most one entry of each bay number 1..48, and so at most 48; its entries stand in
ascending bay number (R138, R141). -/
abbrev TallyUnit.PeersBounded (u : TallyUnit) : Prop :=
  (u.peers.map (·.tally.bay.toNat)).Pairwise (· < ·) ∧
    (∀ e ∈ u.peers, 1 ≤ e.tally.bay.toNat ∧ e.tally.bay.toNat ≤ 48) ∧ u.peers.length ≤ 48

/-- Every list and table is within its capacity and every count within its range (R5, R12, R13, R64,
R81, R101, R138, R141, R150, R164, R176). -/
abbrev State.WithinCapacities (s : State) : Prop :=
  s.table.Distinct ∧
  (∀ l ∈ s.table.lanes, l.placed.length ≤ Config.maxPlaced) ∧
  s.table.reservations.length ≤ Config.maxReservations ∧
  s.table.inbound.length ≤ Config.maxInbound ∧
  s.eval.callQueue.length ≤ Config.maxCalls ∧ s.eval.dropped ≤ Config.maxCount ∧
  s.sensor.withheld ≤ Config.maxCount ∧ s.tally.PeersBounded ∧
  s.rounds.waiting.length ≤ Config.maxWaiting ∧
  s.rounds.dispatched.length ≤ Config.maxDispatched ∧
  (∀ o ∈ s.rounds.openRound, o.OffersBounded) ∧
  s.conditions.length ≤ Config.maxConditions ∧
  s.dli.failures ≤ Config.silentFailures ∧
  (s.dli.line = .normal → s.dli.failures < Config.silentFailures) ∧
  (∀ p ∈ s.retained.lanes, p.part.Holds fun c => c.placed.length ≤ Config.maxPlaced) ∧
  s.retained.inbound.Holds fun es => es.length ≤ Config.maxInbound

/-! ## The ramp's queue -/

/-- The bookings of the waiting queue and of the dispatched list. -/
abbrev RoundController.bookings (rc : RoundController) : List Nat :=
  rc.waiting.map (·.arrival.booking) ++ rc.dispatched.map (·.arrival.booking)

/-- No booking waits or is dispatched twice; the gate hold is asserted whenever the queue holds at least
the high mark and released whenever it holds at most the low mark (R113); and one entry carries the
called mark exactly while a round is open (R81, R105). -/
abbrev State.RampQueue (s : State) : Prop :=
  s.rounds.bookings.Nodup ∧
  (s.conf.role = .ramp →
    s.conf.holdLow < s.conf.holdHigh ∧
    (s.conf.holdHigh ≤ s.rounds.waiting.length → s.rounds.hold = true) ∧
    (s.rounds.waiting.length ≤ s.conf.holdLow → s.rounds.hold = false)) ∧
  s.rounds.waiting.countP (·.called) = (if s.rounds.openRound = none then 0 else 1)

/-! ## The transmit queue -/

/-- One queued frame stands before another: a higher class, or the same class and an older age (R151). -/
abbrev QFrame.before (f g : QFrame) : Prop := f.cls < g.cls ∨ (f.cls = g.cls ∧ f.age < g.age)

/-- A frame is a probe's kind: a TALLY or a PORTCALL (R160). -/
abbrev QFrame.IsProbe (f : QFrame) : Prop := (f.payload.isTally || f.payload.isPortcall) = true

/-- The transmit queue: ordered by class and then by age, at most 8 frames and at most one TALLY beside a
frame that only waits for the end of its attempt, each with fewer than 8 attempts; in SILENT a probe
time and nothing but probes, in NORMAL no probe time (R150 to R154, R160). -/
abbrev State.LineQueue (s : State) : Prop :=
  s.dli.queue.Pairwise QFrame.before ∧ (s.dli.queue.map (·.age)).Nodup ∧
  (∀ f ∈ s.dli.queue, f.age < s.dli.nextAge ∧ f.attempts < Config.maxAttempts ∧
    (f.leaving = true → s.dli.carries f = true)) ∧
  s.dli.queue.countP (fun f => !f.leaving) ≤ Config.maxQueued ∧
  s.dli.queue.countP (fun f => f.payload.isTally && !f.leaving) ≤ 1 ∧
  (s.dli.line = .normal → s.dli.probeTime = none) ∧
  (s.dli.line = .silent → s.dli.probeTime ≠ none ∧ ∀ f ∈ s.dli.queue, f.IsProbe)

/-! ## The condition list -/

/-- The condition list: no code and lane stand twice, counts lie in 1..255, and the entries stand in the
order of their ages, none later than now (R164). -/
abbrev State.ConditionOrder (s : State) : Prop :=
  (s.conditions.map fun c => (c.code, c.lane)).Nodup ∧
  (∀ c ∈ s.conditions, 1 ≤ c.count ∧ c.count ≤ Config.maxCount ∧ c.age ≤ s.now) ∧
  s.conditions.Pairwise fun c d => c.age ≤ d.age

/-! ## The two roles -/

/-- A payload that a bay sends; the others a ramp sends (R161). -/
def Payload.fromBay : Payload → Bool
  | .offer _ => true
  | .decline _ => true
  | .placed _ => true
  | .tally _ => true
  | .noticeWithdrawn => true
  | .noticeMissing _ => true
  | .call _ => false
  | .award _ => false
  | .portcall _ => false

/-- The blocks of the role a node does not have are idle, and its transmit queue holds frames of its own
role alone (00_scope 2.3, R161). -/
abbrev State.RoleApart (s : State) : Prop :=
  (s.conf.role = .bay →
    s.rounds.openRound = none ∧ s.rounds.waiting = [] ∧ s.rounds.dispatched = [] ∧
      s.rounds.heldAdvance = false ∧ ∀ f ∈ s.dli.queue, f.payload.fromBay = true) ∧
  (s.conf.role = .ramp →
    s.table = LaneTable.empty ∧ s.eval = Evaluator.idle ∧ s.sensor = SensorPort.initial ∧
      s.tally.peers = [] ∧ ∀ f ∈ s.dli.queue, f.payload.fromBay = false)

/-! ## The retained copy -/

/-- A part of the retained copy is `c`, or is being written so that it will be (R179). -/
abbrev Part.Follows {α : Type} (c : α) (p : Part α) : Prop :=
  (p.writing = none → p.kept = .valid c) ∧ ∀ w ∈ p.writing, w = c ∨ p.further = true

/-- A node copy has the values that the state's role keeps in it (R179, R180). -/
abbrev NodeCopy.Agrees (s : State) (c : NodeCopy) : Prop :=
  c.callNumber = s.tally.callNumber ∧ (s.conf.role = .bay → c.tallySeq = s.tally.seq) ∧
    (s.conf.role = .ramp → c.roundSeq = s.rounds.seq)

/-- The retained copy follows the stowage: with no write of a part in flight the part holds the contents as
they stand, and with one in flight either it carries them or a further write is to follow (R18, R179).
In the copy no timer runs, and while a start is due no write is in flight (R117, R177). -/
abbrev State.CopiesFollow (s : State) : Prop :=
  s.table.Distinct ∧ s.retained.lanes.map (·.number) = List.range 8 ∧
  (∀ p ∈ s.retained.lanes, p.part.Holds fun c => ∀ r ∈ c.placed, r.lashDue = none) ∧
  (s.retained.inbound.Holds fun es => ∀ e ∈ es, e = e.retained) ∧
  (s.life = .starting → s.retained.writeInFlight = false) ∧
  (s.life ≠ .starting → s.node ≠ .unconfigured → s.retained.stopped = false →
    (∀ l ∈ s.table.lanes, l.number ≤ 7 ∧
      ∀ p ∈ s.retained.lanes, p.number = l.number → p.part.Follows l.copy) ∧
    (s.conf.role = .bay → s.retained.inbound.Follows s.inboundCopy) ∧
    (s.retained.node.writing = none → s.retained.node.read.Agrees s) ∧
    ∀ w ∈ s.retained.node.writing, w.2.Agrees s ∨ s.retained.node.further = true)

/-! ## The configuration in force -/

/-- A whole number lies between two limits, both included (00_scope 3.4). -/
abbrev inLimits (lo hi v : Int) : Prop := lo ≤ v ∧ v ≤ hi

/-- The configured fields of a lane lie in their ranges (R1). -/
abbrev LaneConf.InRange (c : LaneConf) : Prop :=
  c.number ≤ 7 ∧ inLimits 60 1200 c.length ∧ inLimits (-200) 200 c.y ∧
    inLimits (-1200) 1200 c.xf ∧ inLimits 50 200 c.axle ∧ c.sockets ≤ 12

/-- The lanes and the bay-wide values lie in their ranges (R1, R41, R43, R44, R51, R58, R61, R76, R78,
R117). -/
abbrev Conf.BayInRange (c : Conf) : Prop :=
  inLimits 1 48 c.nodeNumber ∧ c.lanes.length ≤ 8 ∧
  (∀ l ∈ c.lanes, l.InRange) ∧ (c.lanes.map (·.number)).Nodup ∧
  c.scanOrder.Perm (c.lanes.map (·.number)) ∧
  inLimits 2 10 c.gap ∧ inLimits 10 100 c.tolerance ∧ inLimits 50 600 c.unidentifiedWeight ∧
  inLimits 100 60000 c.bayWeightLimit ∧ inLimits 0 2000000 c.mtLim ∧
  inLimits (-20000000) 20000000 c.mlMin ∧ inLimits (-20000000) 20000000 c.mlMax ∧
  inLimits (-20000000) 20000000 c.baseMT ∧ inLimits (-20000000) 20000000 c.baseML ∧
  inLimits 0 15 c.wF ∧ inLimits 0 15 c.wD ∧ inLimits 0 15 c.wH ∧
  inLimits 200 5000 c.awardGrace ∧ inLimits 1 6 c.congestHigh ∧ c.congestLow < c.congestHigh ∧
  inLimits 60 1800 c.travelLimit ∧ c.lashClass ≤ 3

/-- The ramp values lie in their ranges (R80, R108, R113, R178). -/
abbrev Conf.RampInRange (c : Conf) : Prop :=
  c.rampId ≤ 3 ∧ inLimits 100 2000 c.offerWindow ∧ c.offerWindow % 10 = 0 ∧
  (∃ d : Fin 6, maskHasDeck c.deckMask (d.val + 1) = true) ∧ inLimits 1 5 c.attemptLimit ∧
  inLimits 2 60 c.recallDelay ∧ inLimits 1 16 c.holdHigh ∧ c.holdLow < c.holdHigh

/-- The configuration of a configured node lies in its ranges, whatever the store held and whatever the
role, and a bay has a lane (R178). -/
abbrev Conf.InRange (c : Conf) : Prop :=
  inLimits 1 6 c.deck ∧ inLimits 5 60 c.listenInterval ∧
  (∀ l ∈ c.alarmMask, 1 ≤ l ∧ l ≤ 6) ∧ c.BayInRange ∧ c.RampInRange ∧
  (c.role = .bay → 1 ≤ c.lanes.length)

/-- A configured node works with values in their ranges (R1, R178). -/
abbrev State.ConfInRange (s : State) : Prop := s.node ≠ .unconfigured → s.conf.InRange

/-! ## What an event hands on -/

/-- The spacing since the last build is over and the line is NORMAL: a cause of a TALLY builds it at once
(R140). -/
abbrev State.buildsNow (d : Dli) (s : State) : Bool := decide (d.line = .normal) && s.spacingOver

/-- A cause of a TALLY came in the event that led from `s` to `t`, whose own frames left the DLI as `d`:
with the line NORMAL and the spacing over, a TALLY with the next sequence and the values of `t` has been
built and handed in; otherwise the pending change stands (R139, R140). -/
abbrev TallyCaused (d : Dli) (s t : State) : Prop :=
  if s.buildsNow d = true then
    t.tally.seq = s.tally.seq + 1 ∧ t.tally.lastBuild = some t.now ∧ t.tally.pendingChange = false ∧
      t.dli = (d.handInNormal t.tally.callNumber (.tally (t.tallyPayload t.tally.seq))).1
  else
    t.tally.seq = s.tally.seq ∧ t.tally.lastBuild = s.tally.lastBuild ∧
      t.tally.pendingChange = true ∧ t.dli = d

/-- The own sums of `t` are those of `s` with two amounts added, and the call number and peer table stand
as they were (R49, R138). -/
abbrev SumsMoved (dT dL : Int) (s t : State) : Prop :=
  t.tally.ownT = s.tally.ownT + dT ∧ t.tally.ownL = s.tally.ownL + dL ∧
    t.tally.callNumber = s.tally.callNumber ∧ t.tally.peers = s.tally.peers

/-- The parts of the retained copy written in the event that led from `s` to `t`: for each a write with
the contents that `t` holds has begun, or one further write is pending (R18, R179); nothing is written
after a configuration write (R178). -/
abbrev Copied (lanes : List Nat) (inbound node : Bool) (s t : State) : Prop :=
  t.retained =
    if s.retained.stopped then s.retained
    else
      { s.retained with
        lanes := lanes.dedup.foldl (touchLane t.table) s.retained.lanes
        inbound := if inbound then s.retained.inbound.touch t.inboundCopy else s.retained.inbound
        node := if node then s.retained.node.touch t.nodeCopy else s.retained.node }

/-- The evaluation in flight is restarted in the event, keeping its CALL, with a snapshot of `t`; with
none in flight there is nothing to restart (R18, R72). -/
abbrev Restarted (s t : State) : Prop :=
  t.eval.inFlight = s.eval.inFlight.map fun v =>
    { v with snapshot := t.snapshot, restarts := v.restarts + 1 }

/-- The evaluator of `t` is that of `s`, its evaluation in flight restarted when `again` holds. -/
abbrev EvaluatorKept (again : Bool) (s t : State) : Prop :=
  (if again = true then Restarted s t else t.eval.inFlight = s.eval.inFlight) ∧
    { t.eval with inFlight := s.eval.inFlight } = s.eval

/-- The evaluation in flight has ended, and the next CALL whose deadline has not passed is taken with a
snapshot of `t` (R64, R69, R70). -/
abbrev MovedOn (s t : State) : Prop :=
  (match liveCalls t.now s.eval.callQueue with
    | [] => t.eval = { s.eval with inFlight := none, callQueue := [] }
    | c :: rest =>
      t.eval =
        { s.eval with
          callQueue := rest
          inFlight := some { call := c, snapshot := t.snapshot, restarts := 0 } })

/-- The congestion state follows the inbound count of `t`; becoming CONGESTED empties the evaluator, and
otherwise the event's change of the lists restarts the evaluation in flight (R72, R78, R79). -/
abbrev CongestionFollowed (s t : State) : Prop :=
  t.eval.congested =
    Machine.gate s.conf.congestHigh s.conf.congestLow t.table.inbound.length s.eval.congested ∧
  (if t.eval.congested = true ∧ s.eval.congested = false then t.eval.Empty
    else Restarted s t ∧ t.eval.callQueue = s.eval.callQueue) ∧
  t.eval.roundRecord = s.eval.roundRecord ∧ t.eval.dropped = s.eval.dropped

/-- How the event that led from `s` to `w` ends in `t`: the evaluation in flight is restarted when `again`
holds, a TALLY is caused when `caused` holds, the copies of `lanes` are written, once for the event, and no
more happens (R18, R72, R140, R179). -/
abbrev EventEnds (again caused : Bool) (lanes : List Nat) (s w t : State) : Prop :=
  EvaluatorKept again w t ∧
  (if caused = true then TallyCaused w.dli w t ∧ SumsMoved 0 0 w t
    else t.tally = w.tally ∧ t.dli = w.dli) ∧
  Copied lanes false (caused && w.buildsNow w.dli) s t ∧
  { t with
    eval := w.eval, tally := w.tally, dli := w.dli, retained := w.retained, handed := w.handed } = w

/-- The DLI without the OFFERs of some rounds (R90, R154). -/
abbrev Dli.offersOut (rs : List RoundId) (d : Dli) : Dli :=
  d.takeOut fun p => rs.any fun r => p.isOfferFor r

/-- The DLI after a frame of the node's own is handed in: queued in NORMAL, discarded in SILENT (R151,
R160). -/
abbrev Dli.taking (callNumber : Byte) (p : Payload) (d : Dli) : Dli :=
  match d.line with
  | .normal => (d.handInNormal callNumber p).1
  | .silent => d

/-- The drops that handing a frame in reports: of a CALL or AWARD refused or evicted at a full queue, or
discarded in SILENT (R152, R157, R160). -/
abbrev Dli.dropsOf (callNumber : Byte) (p : Payload) (d : Dli) : List Drop :=
  match d.line with
  | .normal => (d.handInNormal callNumber p).2
  | .silent => p.dropReport

/-- The DLI has room for `n` more frames, or discards them (R150, R160). -/
abbrev Dli.hasRoom (n : Nat) (d : Dli) : Prop :=
  d.line = .silent ∨ d.queue.length + n ≤ Config.maxQueued

/-! ## The rounds of a ramp -/

/-- The CALL that opens a round for an entry (R82). -/
abbrev State.nextCallPayload (w : WaitingEntry) (u : State) : CallPayload :=
  { round := { ramp := BitVec.ofNat 8 u.conf.rampId, seq := u.rounds.seq + 1 }
    deckMask := u.conf.deckMask
    window := BitVec.ofNat 8 (u.conf.offerWindow / 10)
    arrival := w.arrival.toWire }

/-- A round opens for the waiting entry `w`, in an event that had otherwise led to `u`: the next round
sequence, the called mark on `w`, an empty offer list, the CALL handed in, and the window timer stopped
unless the CALL was dropped at once (R82, R83, R152). -/
abbrev RoundOpened (w : WaitingEntry) (u t : State) : Prop :=
  t.rounds =
    { u.rounds with
      seq := u.rounds.seq + 1
      waiting := markCalled u.now u.rounds.gradient u.rounds.waiting
      openRound := some
        { round := (u.nextCallPayload w).round
          deckMask := u.conf.deckMask, window := u.conf.offerWindow
          windowDue :=
            if (u.dli.handInNormal u.tally.callNumber (.call (u.nextCallPayload w))).2.contains
              (.call (u.nextCallPayload w).round) then some (u.now + u.conf.offerWindow) else none
          offers := [] } } ∧
  t.dli = (u.dli.handInNormal u.tally.callNumber (.call (u.nextCallPayload w))).1 ∧
  Copied [] false true u t ∧
  { t with rounds := u.rounds, dli := u.dli, retained := u.retained, handed := u.handed } = u

/-- The event led to `u`, and R82 then looked for a callable entry: a round opened for the first one when
all it asks for held, and otherwise nothing more happened than the writing of the node copy, where the
event called for it. -/
abbrev Looked (node : Bool) (u t : State) : Prop :=
  (u.MayOpen →
    ∀ w, u.rounds.waiting.find? (WaitingEntry.callable u.now u.rounds.gradient) = some w →
      RoundOpened w u t) ∧
  (¬ u.MayOpen ∨ u.rounds.waiting.find? (WaitingEntry.callable u.now u.rounds.gradient) = none →
    Copied [] false node u t ∧ { t with retained := u.retained, handed := u.handed } = u)


/-- The waiting queue of a ramp has become `ws`, and the gate hold follows its count (R113). -/
abbrev State.waitingNow (ws : List WaitingEntry) (s : State) : State :=
  { s with
    rounds := { s.rounds with
      waiting := ws
      hold := Machine.gate s.conf.holdHigh s.conf.holdLow ws.length s.rounds.hold } }

/-- A disposition has been handed to the gate line (R112). -/
abbrev State.disposed (booking : Nat) (v : Verdict) (s : State) : State :=
  { s with out := { s.out with gate := s.out.gate ++ [{ booking := booking, verdict := v }] } }

/-- What the drop of a frame, reported at `v`, leads to: the drop of the open round's CALL starts its window
timer (R83); the drop of an AWARD whose entry is still dispatched cancels it UNSENT, and it returns to the
head of the waiting queue or, with 16 waiting, is SHUT OUT (R87, R110, R113). -/
abbrev State.dropReported (v : State) (d : Drop) : State :=
  match d with
  | .call r =>
    { v with rounds := { v.rounds with
      openRound := v.rounds.openRound.map fun o =>
        if o.round = r ∧ o.windowDue = none then { o with windowDue := some (v.now + o.window) }
        else o } }
  | .award r bay =>
    match v.rounds.dispatched.find? fun e => decide (e.round = r) && decide (e.bay = bay) with
    | none => v
    | some e =>
      let u := v.disposed e.arrival.booking (.cancelled .unsent)
      let u : State := { u with rounds := { u.rounds with
        dispatched := v.rounds.dispatched.eraseP fun e =>
          decide (e.round = r) && decide (e.bay = bay) } }
      if v.rounds.waiting.length < Config.maxWaiting then
        u.waitingNow ({ arrival := e.arrival, attempts := e.attempts, notBefore := none
                        called := false } :: v.rounds.waiting)
      else u.disposed e.arrival.booking (.shutOut .queueFull)

/-- A held advance acted on: the call number raised by one, a PORTCALL carrying it handed in, the advance
held no more, and the drop of a frame evicted for it reported (R115, R152). -/
abbrev State.heldActed (s : State) : State :=
  if s.rounds.heldAdvance then
    (s.dli.dropsOf (s.tally.callNumber + 1) (.portcall (s.tally.callNumber + 1))).foldl
      State.dropReported
      { s with
        tally := { s.tally with callNumber := s.tally.callNumber + 1 }
        dli := s.dli.taking (s.tally.callNumber + 1) (.portcall (s.tally.callNumber + 1))
        rounds := { s.rounds with heldAdvance := false } }
  else s

/-! ## Frames received -/

/-- A frame with this header and payload is received: the node is configured, the check word agrees and
the frame is well-formed (R156, R161). -/
abbrev State.Hears (h : RxHeader) (p : Payload) (s : State) : Prop :=
  s.Configured ∧ frameAgrees h p = true ∧ frameWellFormed h p = true

/-- The node as a received frame's block finds it: the frame acknowledged and the catch-up made (R145,
R156). -/
abbrev State.caughtUp (h : RxHeader) (s : State) : State := s.acknowledge.catchUp h.callNumber

/-- The frame's call number leads the node's: a catch-up is made (R145). -/
abbrev State.behind (h : RxHeader) (s : State) : Bool := leads h.callNumber s.tally.callNumber

/-- The lanes whose copies a catch-up changes: all those of a bay (R147). -/
abbrev State.caughtLanes (h : RxHeader) (s : State) : List Nat :=
  if s.behind h = true ∧ s.conf.role = .bay then s.table.lanes.map (·.number) else []

/-- A catch-up at a bay changed its lists (R147, R148). -/
abbrev State.caughtBay (h : RxHeader) (s : State) : Bool :=
  s.behind h && decide (s.conf.role = .bay)

/-- A frame received at `s` led the block that takes it to `v`, and nothing of the block's own is handed
on: what is left of the event is what a catch-up hands on, its restart with the snapshot of the catch-up
alone, made before the frame is taken (R72, R145, R147, R148). -/
abbrev Heard (h : RxHeader) (s v t : State) : Prop :=
  t.eval = { v.eval with
    inFlight := if s.caughtBay h = true then
        v.eval.inFlight.map fun e =>
          { e with snapshot := (s.caughtUp h).snapshot, restarts := e.restarts + 1 }
      else v.eval.inFlight } ∧
    Copied (s.caughtLanes h) (s.caughtBay h) (s.behind h) s t ∧
    { t with eval := v.eval, retained := v.retained, handed := v.handed } = v

/-! ## Commands without effect -/

/-- A panel answer and nothing else. -/
abbrev State.answered (a : Answer) (s : State) : State :=
  { s with out := { s.out with panel := s.out.panel ++ [a] }, handed := HandedOn.clear }

/-- Nothing at all, as a command that finds nothing to act on leaves the state. -/
abbrev State.unmoved (s : State) : State := { s with handed := HandedOn.clear }

/-- The crew commands of the panel line (R19, R114, R133, R168, R177). -/
def isPanelCommand : Instr → Bool
  | .panelReset => true
  | .openLane _ => true
  | .closeLane _ => true
  | .openAll => true
  | .release _ _ => true
  | .lashConfirm _ => true
  | .ack => true
  | .advancePort => true
  | _ => false

/-- The commands that reach a node whatever its life and configuration: the start events, the service
line, the discrete inputs and the writes of the Retained Store (R177, R178). -/
def reachesAnyNode : Instr → Bool
  | .powerOn => true
  | .start _ _ => true
  | .configurationWrite _ => true
  | .stopLineRisingEdge => true
  | .gradientClassChange _ => true
  | .copyWriteCompletion _ => true
  | _ => false

/-- What an inconsistency on a lane number makes of the state `v` that its event has led to, but for what the
event hands on: in LISTEN the lane leaves the replied set (R182); in ACTIVE the bay passes to RECOVERY, gives
up its evaluation and its CALLs, releases its reservations with their OFFERs and sends a SURVEY unless one is
outstanding (R77, R172); in RECOVERY it is WITHDRAWN, its survey closed, with its condition and its NOTICE
(R175). -/
abbrev State.foundInconsistent (n : Nat) (v : State) : State :=
  match v.node with
  | .listen =>
    { v with sensor := { v.sensor with
      replied := v.sensor.replied.filter fun k => decide (k ≠ n) } }
  | .active =>
    { v with
      node := .recovery, eval := { v.eval with inFlight := none, callQueue := [] }
      table := { v.table with reservations := [] }
      dli := v.dli.offersOut (v.table.reservations.map (·.round))
      sensor := if v.sensor.surveyDue = none then
        { v.sensor with surveyDue := some (v.now + Config.surveyTime), replied := [] } else v.sensor
      out := if v.sensor.surveyDue = none then { v.out with surveys := v.out.surveys + 1 } else v.out }
  | .recovery =>
    { v with
      node := .withdrawn, sensor := { v.sensor with surveyDue := none }
      conditions := raiseCondition v.now .withdrawn none v.conditions
      dli := v.dli.taking v.tally.callNumber .noticeWithdrawn }
  | .withdrawn => v
  | .unconfigured => v

/-- An ENTER or LEAVE that is not discarded for its check word, code or length (R162). -/
def isVehicleMessage : Instr → Bool
  | .enter lane m check => sensorAgrees 1 lane m check
  | .leave lane m check => sensorAgrees 2 lane m check
  | _ => false

/-- The header and payload that a frame command carries. -/
def frameOf? : Instr → Option (RxHeader × Payload)
  | .call h p => some (h, .call p)
  | .offer h p => some (h, .offer p)
  | .award h p => some (h, .award p)
  | .decline h p => some (h, .decline p)
  | .placed h p => some (h, .placed p)
  | .noticeMissing h p => some (h, .noticeMissing p)
  | .tally h p => some (h, .tally p)
  | .noticeWithdrawn h => some (h, .noticeWithdrawn)
  | .portcall h n => some (h, .portcall n)
  | _ => none

/-- An ENTER or LEAVE that cannot be what the stowage allows, on a lane number: no lane record, an ENTER that
fails a test of R121, a LEAVE from an empty lane (R120, R121, R134). -/
abbrev State.Inconsistent (n : Nat) (c : Instr) (s : State) : Prop :=
  match c with
  | .enter lane m check =>
    sensorAgrees 1 lane m check = true ∧ lane.toNat = n ∧
      ∀ l, s.table.lane? n = some l →
        Config.maxPlaced ≤ l.placed.length ∨ l.conf.length < (m.toNat : Int) ∨
          (m.toNat : Int) - l.used < Config.minInferred
  | .leave lane m check =>
    sensorAgrees 2 lane m check = true ∧ lane.toNat = n ∧
      ∀ l, s.table.lane? n = some l → l.placed = []
  | _ => False

end Sys2Proof.Machine
end

