-- ==== Sys2Proof/Certificates/Slice0/Obligations.lean ====
section
/-! DEFINITION. The statements for the provers, in the order of OBLIGATIONS.json: how commands are taken;
the invariants every step keeps; what the functions of the spec give; and what each command does, with
its frame. A frame is written as an equation that names every field that may differ; `handed`, the
event's own bookkeeping, is named in each, and every command leaves it clear. -/

open Sys2Proof Sys2Proof.Machine

/-! ## How commands are taken -/

/-- A step takes the command at the front of the queue and is `exec` of it on the state with the rest. -/
def Obligations.StepTakesFrontCommand : Prop :=
  ∀ (s : State) (c : Instr) (rest : List Instr),
    step { s with pending := c :: rest } = exec c { s with pending := rest }

/-- Every command answers a next state in every state (00_scope 2.4): it leaves the queue alone and nothing
to hand on, the clock does not go back, what has been put out stays put out, the store is written by
CONFIGURATION_WRITE alone, and the configuration in force is loaded by START alone (R177, R178). -/
def Obligations.EveryCommandCompletes : Prop :=
  ∀ (s : State) (c : Instr),
    ∃ t, exec c s = .next t ∧ t.pending = s.pending ∧ t.handed = HandedOn.clear ∧ s.now ≤ t.now ∧
      s.out.deck <+: t.out.deck ∧ s.out.gate <+: t.out.gate ∧ s.out.panel <+: t.out.panel ∧
      s.out.acks ≤ t.out.acks ∧ s.out.surveys ≤ t.out.surveys ∧
      ((∀ k, c ≠ .configurationWrite k) → t.store = s.store) ∧
      ((∀ a g, c ≠ .start a g) → t.conf = s.conf)

/-- A node that is closed or waits for its start takes no panel command, frame, message, record or timer
(R177), and an UNCONFIGURED node takes nothing but panel commands, which it refuses (R19, R178); PANEL
RESET on a running node is answered TAKEN and closes it (R177). A sensor line message whose check word
disagrees, of an unknown code or of a length that is not its code's, or that reaches no bay, changes nothing
(R162; a message of no row is given to the model as its log entry 16 says). -/
def Obligations.CommandsTurnedAside : Prop :=
  (∀ (s : State) (c : Instr),
     (¬ s.Configured → reachesAnyNode c = false → (s.life = .running → isPanelCommand c = false) →
       exec c s = .next s.unmoved) ∧
     (s.life = .running → c = .panelReset → exec c s = .next { s.answered .taken with life := .closing }) ∧
     (s.life = .running → s.node = .unconfigured → isPanelCommand c = true → c ≠ .panelReset →
       exec c s = .next (s.answered .refused))) ∧
  (∀ (s : State) (lane : Byte) (m : Word16) (check : RxCheck),
    (¬ s.IsBay ∨ check.form ≠ .asRow ∨ check.word ≠ checkWord ([1, lane] ++ bytes2 m) →
      exec (.enter lane m check) s = .next s.unmoved) ∧
    (¬ s.IsBay ∨ check.form ≠ .asRow ∨ check.word ≠ checkWord ([2, lane] ++ bytes2 m) →
      exec (.leave lane m check) s = .next s.unmoved) ∧
    (¬ s.IsBay ∨ check.form ≠ .asRow ∨ check.word ≠ checkWord [3, lane] →
      exec (.sensorFault lane check) s = .next s.unmoved) ∧
    (¬ s.IsBay ∨ check.form ≠ .asRow ∨ check.word ≠ checkWord [4, lane] →
      exec (.sensorClear lane check) s = .next s.unmoved) ∧
    (¬ s.IsBay ∨ check.form ≠ .asRow ∨ check.word ≠ checkWord ([5, lane] ++ bytes2 m) →
      exec (.level lane m check) s = .next s.unmoved) ∧
    (¬ s.IsBay ∨ check.form ≠ .asRow ∨ check.word ≠ checkWord [6] →
      exec (.surveyEnd check) s = .next s.unmoved))

/-! ## Invariants -/

/-- Every invariant below holds of the machine right after reset. -/
def Obligations.ResetIsSafe : Prop :=
  State.reset.LaneSums ∧ State.reset.Ledger ∧ State.reset.FrontsStand ∧
    State.reset.WithinCapacities ∧ State.reset.RanksBounded ∧ State.reset.BookingsOnce ∧
    State.reset.PromisesHeld ∧ State.reset.SnapshotCurrent ∧ State.reset.RampQueue ∧
    State.reset.LineQueue ∧ State.reset.ConditionOrder ∧ State.reset.ConfInRange ∧
    State.reset.RoleApart ∧ State.reset.CopiesFollow

/-- Every step keeps U the sum over the placed list, the sockets in use within the configured ones (R9,
R10), the own sums exact over placed records and inbound entries (R49), and each front distance the sum of
length plus gap over the records ahead (R5), in the copies too, no write being in flight in a retained copy that
a configuration write has emptied (R178). -/
def Obligations.SumsKept : Prop :=
  (∀ (s t : State),
     step s = .next t → (s.LaneSums → t.LaneSums) ∧ (s.Ledger → t.Ledger)) ∧
  (∀ (s t : State),
     step s = .next t → s.FrontsStand → t.FrontsStand)

/-- Every step keeps every list within its capacity and every count and rank within its range (R5, R11,
R12, R13, R64, R81, R101, R150, R164, R176); and the peer table to at most one entry of each bay number 1..48
(R138, R141), in the ascending order in which the model keeps it. -/
def Obligations.CapacitiesKept : Prop :=
  ∀ (s t : State),
    step s = .next t →
      (s.WithinCapacities → t.WithinCapacities) ∧ (s.RanksBounded → t.RanksBounded)

/-- Every command but START, which brings back what a copy of the lists held, keeps each booking number at
most once among reservations, inbound entries and placed records (R14). -/
def Obligations.BookingsKeptOnce : Prop :=
  ∀ (s t : State) (c : Instr),
    (∀ a g, c ≠ .start a g) → exec c s = .next t → s.BookingsOnce → t.BookingsOnce

/-- Every step keeps this: only an ACTIVE bay in NORMAL holds reservations, and it and no congested bay has
CALLs in hand (R12, R77, R79), the evaluation in flight working on the reservations held (R75). -/
def Obligations.PromisesKept : Prop :=
  ∀ (s t : State),
    step s = .next t →
      s.PromisesHeld ∧ s.SnapshotCurrent → t.PromisesHeld ∧ t.SnapshotCurrent

/-- Every step keeps the ramp's bookings distinct, its gate hold between its marks (R113) and exactly one
called mark while a round is open (R81, R105). -/
def Obligations.RampQueueKept : Prop :=
  ∀ (s t : State),
    step s = .next t → s.RampQueue → t.RampQueue

/-- Every step keeps the transmit queue in its order and bounds (R150 to R154, R160). A frame handed in in
NORMAL (R151, R152, R153): a TALLY replaces a TALLY that waits, one whose attempt is on the line running to
its end; a frame is queued while fewer than 8 stand there; with 8 it is refused when its class is lower than
that of every other frame, and otherwise the newest frame of the lowest class among the others, the frame on
the line left out, is evicted for it. The drop of a CALL or AWARD so refused or evicted is reported. It enters
at the tail of its class. That a frame which leaves at the end of its attempt counts among the 8 until then is the
model's reading (log entry 12), and that it is not replaced by a further TALLY, which then needs room like any
frame, the model's choice (log entry 33). -/
def Obligations.LineQueueKept : Prop :=
  (∀ (s t : State),
     step s = .next t → s.LineQueue → t.LineQueue) ∧
  (∀ (d : Dli) (cn : Byte) (p : Payload) (q : List QFrame),
     (let f : QFrame :=
       { payload := p, callNumber := cn, age := d.nextAge, attempts := 0, leaving := false };
     let others := d.queue.filter fun g => !(d.carries g);
     let replaces := p.isTally && d.queue.any fun g => g.payload.isTally && !g.leaving;
     let put (r : List QFrame) : Dli := { d with queue := enqueue f r, nextAge := d.nextAge + 1 };
     (replaces = true →
       d.handInNormal cn p =
         (put (d.queue.filterMap fun g =>
           if g.payload.isTally = true then
             (if d.carries g = true then some { g with leaving := true } else none)
           else some g), [])) ∧
     (replaces = false → d.queue.length < 8 → d.handInNormal cn p = (put d.queue, [])) ∧
     (replaces = false → 8 ≤ d.queue.length → d.queue.Pairwise QFrame.before →
       ((∀ g ∈ others, g.cls < p.cls) → d.handInNormal cn p = (d, p.dropReport)) ∧
       (∀ g ∈ others, p.cls ≤ g.cls → (∀ k ∈ others, k = g ∨ k.before g) →
         d.handInNormal cn p =
           (put (d.queue.filter fun k => decide (k.age ≠ g.age)), g.payload.dropReport))) ∧
     (q.Pairwise QFrame.before → (∀ g ∈ q, g.age < d.nextAge) →
       (enqueue f q).Pairwise QFrame.before ∧ (enqueue f q).Perm (f :: q))))

/-- Every step keeps the condition list free of doubles, its counts in 1..255 and its entries in the order
of their ages (R164). -/
def Obligations.ConditionOrderKept : Prop :=
  ∀ (s t : State),
    step s = .next t → s.ConditionOrder → t.ConditionOrder

/-- Every step keeps the configuration in force within its ranges, whatever the store holds (R1, R178),
the identity number of the other role too, which is the model's choice (log entry 7). -/
def Obligations.ConfigurationKeptInRange : Prop :=
  ∀ (s t : State),
    step s = .next t → s.ConfInRange → t.ConfInRange

/-- Every step keeps the blocks of the other role idle, and the transmit queue to the node's own frames
(R161, 00_scope 2.3). -/
def Obligations.RolesKeptApart : Prop :=
  ∀ (s t : State),
    step s = .next t → s.RoleApart → t.RoleApart

/-- Every step keeps the retained copy following the stowage: what no write in flight will change is what
the node holds (R18, R179, R180). -/
def Obligations.CopiesKeptFollowing : Prop :=
  ∀ (s t : State),
    step s = .next t → s.CopiesFollow → t.CopiesFollow

/-- No bay puts an OFFER on the deck line without holding the reservation of its round (R90, R154). -/
def Obligations.NoOfferWithoutReservation : Prop :=
  ∀ (s t : State) (c : Instr) (f : Frame) (p : OfferPayload),
    exec c s = .next t → t.out.deck = s.out.deck ++ [f] → f.payload = .offer p →
      ∃ r ∈ s.table.reservations, r.round = p.round

/-- A WITHDRAWN bay leaves that state by a start alone, and keeps its vehicle lists frozen: whatever command it
takes, its placed records with their lengths, places and sockets, its inbound entries, the own sums and the
congestion state stay as they were at the passage (R118, R176). -/
def Obligations.WithdrawnBayStaysFrozen : Prop :=
  ∀ (s t : State) (c : Instr),
    exec c s = .next t → s.IsBay → s.node = .withdrawn → s.PromisesHeld →
      (∀ a g, c ≠ .start a g) →
        t.node = .withdrawn ∧ t.tally.ownT = s.tally.ownT ∧ t.tally.ownL = s.tally.ownL ∧
        t.eval.congested = s.eval.congested ∧
        List.Forall₂ (fun k l : Lane =>
          l.number = k.number ∧ l.used = k.used ∧ l.sockets = k.sockets ∧
            List.Forall₂ (fun q r : Record =>
              r.booking = q.booking ∧ r.length = q.length ∧ r.weight = q.weight ∧
                r.front = q.front ∧ r.granted = q.granted ∧ r.round = q.round) k.placed l.placed)
          s.table.lanes t.table.lanes ∧
        List.Forall₂ (fun d e : Inbound =>
          e.round = d.round ∧ e.lane = d.lane ∧ e.arrival.booking = d.arrival.booking ∧
            e.front = d.front ∧ e.centre = d.centre)
          s.table.inbound t.table.inbound

/-! ## Functions of the spec -/

/-- The acceptance filter (R28, whole). -/
def Obligations.FilterAcceptance : Prop :=
  ∀ (c : LaneConf) (a : Arrival),
    (c.accepts a = true ↔ ∀ x ∈ c.careSet, (a.has x = true ↔ x ∈ c.matchSet)) ∧
    (∀ ms : List Attr, (∀ x ∈ c.careSet, (x ∈ ms ↔ x ∈ c.matchSet)) →
      ({ c with matchSet := ms } : LaneConf).accepts a = c.accepts a) ∧
    (c.careSet = [] → c.accepts a = true) ∧
    ((∀ x, x ∈ c.careSet) → (c.accepts a = true ↔ ∀ x, (a.has x = true ↔ x ∈ c.matchSet)))

/-- The segregation table (R37, whole). -/
def Obligations.SegregationTable : Prop :=
  ∀ (g h : Group) (x : Option Group) (weight length front : Int),
    (separated g h = true ↔
      (g, h) ∈
        [(Group.a, Group.b), (.a, .c), (.a, .f), (.b, .a), (.b, .c), (.b, .e), (.c, .a), (.c, .b),
          (.c, .d), (.d, .c), (.d, .f), (.e, .b), (.e, .f), (.f, .a), (.f, .d), (.f, .e)]) ∧
    separated g h = separated h g ∧ separated g g = false ∧
    separatedGroups none x = false ∧ separatedGroups x none = false ∧
    separatedGroups (some g) (some h) = separated g h ∧
    (unidentified weight length front).hazard = none ∧ Config.segregationDistance = 30

/-- conv rounds a moment to the nearest whole tonne-metre, halves away from zero (R46); the ship estimate
is the exact sum of its parts held at ±2,000,000,000, whatever the order of the peers, and saturated it
fails test 13 in every lane while the heel test is on (R51, R52). -/
def Obligations.MomentsRounded : Prop :=
  ∀ (v : Int) (s : State) (ps : List PeerEntry) (c : Conf) (snap : Snapshot) (l : LaneSnap) (a : Arrival),
    ((conv v).natAbs = (v.natAbs + 50) / 100 ∧ (0 ≤ v → 0 ≤ conv v) ∧ (v ≤ 0 → conv v ≤ 0) ∧
      2 * (100 * conv v - v).natAbs ≤ 100 ∧
      (2 * (100 * conv v - v).natAbs = 100 → v.natAbs < (100 * conv v).natAbs)) ∧
    (let sum := s.conf.baseMT + conv s.tally.ownT +
        (((s.tally.peers.filter fun p => decide (p.tally.bay.toNat ≠ s.conf.nodeNumber)).map
          fun p => p.tally.mt.toInt).sum);
      s.estimateT =
        if 2000000000 < sum then 2000000000 else if sum < -2000000000 then -2000000000 else sum) ∧
    (let sum := s.conf.baseML + conv s.tally.ownL +
        (((s.tally.peers.filter fun p => decide (p.tally.bay.toNat ≠ s.conf.nodeNumber)).map
          fun p => p.tally.ml.toInt).sum);
      s.estimateL =
        if 2000000000 < sum then 2000000000 else if sum < -2000000000 then -2000000000 else sum) ∧
    (ps.Perm s.tally.peers →
      ({ s with tally := { s.tally with peers := ps } } : State).estimateT = s.estimateT ∧
      ({ s with tally := { s.tally with peers := ps } } : State).estimateL = s.estimateL) ∧
    ((snap.st = 2000000000 ∨ snap.st = -2000000000) → 0 < c.mtLim → c.mtLim ≤ 2000000 →
      (a.weight * l.conf.y).natAbs ≤ 120000 → test13 c (candidateT snap l a) = false)

/-- Every order, fit and heel term and every score formed for an eligible lane lies in 0..256, and the fit
term is 256 exactly when the vehicle fills the free length, which no lane has above 1200 dm (R1, R36, R55, R57,
R58, R59). A lane is eligible for a call exactly when the arrival is in range (R25, R26) and the lane passes
every one of tests 1 to 14 against the snapshot (R29 to R36, R38 to R44, with the lengths of R16, the held and
full lanes of R17 and the moments of R54), and this is what the choice is handed of it (R45). The candidates
are the eligible lanes in the scan order (R61, R71), each with the weighted mean of its terms (R58). -/
def Obligations.ScoresInRange : Prop :=
  (∀ (c : Conf) (snap : Snapshot) (a : Arrival) (l : LaneSnap) (v : LaneVerdict),
     2 ≤ c.gap → 0 ≤ c.mtLim → inLimits 0 15 c.wF → inLimits 0 15 c.wD → inLimits 0 15 c.wH →
       laneVerdict c snap a l = some v → v.free ≤ 1200 →
         (v.order = 0 ∨ v.order = 128 ∨ v.order = 256) ∧
         inLimits 1 256 (fitTerm (a.extent c.gap) v.free) ∧
         (fitTerm (a.extent c.gap) v.free = 256 ↔ v.free = a.extent c.gap) ∧
         inLimits 0 256 (heelTerm c.mtLim v.sT) ∧ inLimits 0 256 (score c a v)) ∧
  (∀ (c : Conf) (snap : Snapshot) (a : Arrival) (l : LaneSnap) (v : LaneVerdict),
     (let st := snap.stowage;
     let entries (n : Nat) : List Inbound := st.inbound.filter fun e => decide (e.lane = n);
     let booked (n : Nat) : List Reservation := st.reservations.filter fun r => decide (r.lane = n);
     let behind : List Arrival := (entries l.number).map (·.arrival) ++ (booked l.number).map (·.arrival);
     let planned : Int := l.used + (behind.map fun x => x.length + c.gap).sum;
     let free : Int := l.conf.length - planned;
     let tail : Option (Option Nat × Option Group) :=
       match behind.getLast? with
       | some x => some (some x.rank, x.hazard.group?)
       | none => l.placed.getLast?.map fun r => (r.rank, r.hazard);
     let order : Option Int :=
       match tail with
       | none => some 256
       | some (none, _) => none
       | some (some r, _) =>
         if a.rank = r then some 256 else if a.rank < r then some 128
         else if a.overstow = true then some 0 else none;
     let held (v : Int) : Int := max (-2000000000) (min 2000000000 v);
     let centre : Int := l.conf.xf - planned - a.length / 2;
     let sT : Int := held (snap.st + conv (a.weight * l.conf.y));
     let sL : Int := held (snap.sl + conv (a.weight * max (-1200) (min 1200 centre)));
     let clear (group : Option Group) (front length : Int) : Prop :=
       separatedGroups group a.hazard.group? = false ∨ planned + a.length ≤ front - 30 ∨
         front + length + 30 ≤ planned;
     let inRange : Prop :=
       (1 ≤ a.booking ∧ a.booking < 2 ^ 40 ∧ a.kind.kind? ≠ none ∧ inLimits 20 250 a.length ∧
         inLimits 15 45 a.width ∧ inLimits 10 50 a.height ∧ inLimits 5 600 a.weight ∧
         inLimits 5 200 a.axle ∧ (a.hazard = .none ∨ a.hazard.group? ≠ none) ∧
         1 ≤ a.rank ∧ a.rank ≤ 15);
     let eligible : Prop :=
       (inRange ∧ l.stored = .opened ∧
         ¬ (behind = [] ∧ ∃ r ∈ l.placed.getLast?, r.status = .unidentified ∧ r.rank = none) ∧
         (l.placed.length < 24 ∧ 22 ≤ free) ∧ l.placed.length + behind.length < 24 ∧
         a.length + c.gap ≤ free ∧ (∀ x ∈ l.conf.careSet, (a.has x = true ↔ x ∈ l.conf.matchSet)) ∧
         a.axle ≤ l.conf.axle ∧
         (a.reefer = true → l.sockets + behind.countP (·.reefer) + 1 ≤ l.conf.sockets) ∧
         (∀ t ∈ tail, separatedGroups t.2 a.hazard.group? = false) ∧
         (∀ k ∈ st.lanes, k.number = l.number + 1 ∨ l.number = k.number + 1 →
           (∀ r ∈ k.placed, clear r.hazard r.front r.length) ∧
           (∀ e ∈ entries k.number, clear e.arrival.hazard.group? e.front e.arrival.length) ∧
           (∀ r ∈ booked k.number, clear r.arrival.hazard.group? r.front r.arrival.length)) ∧
         (st.lanes.map fun k => (k.placed.map (·.weight)).sum).sum +
           (st.inbound.map (·.arrival.weight)).sum + (st.reservations.map (·.arrival.weight)).sum +
           a.weight ≤ c.bayWeightLimit ∧
         (∀ k ∈ st.lanes, ∀ r ∈ k.placed, r.booking ≠ some a.booking) ∧
         (∀ e ∈ st.inbound, e.arrival.booking ≠ a.booking) ∧
         (∀ r ∈ st.reservations, r.arrival.booking ≠ a.booking) ∧
         (c.mtLim = 0 ∨ (sT.natAbs : Int) ≤ c.mtLim) ∧
         (c.mlMax < c.mlMin ∨ inLimits c.mlMin c.mlMax sL));
     (laneVerdict c snap a l = some v ↔
       eligible ∧ order = some v.order ∧
         v = { lane := l.number, order := v.order, free := free, sT := sT, sL := sL
               front := planned, centre := centre }) ∧
     (score c a v =
       (let w : Int × Int × Int := if c.wF = 0 ∧ c.wD = 0 ∧ c.wH = 0 then (1, 1, 1)
         else (c.wF, c.wD, c.wH);
       (w.1 * (256 * (a.length + c.gap) / v.free) + w.2.1 * v.order +
         w.2.2 * (if c.mtLim = 0 then 256
           else 256 * (c.mtLim - (v.sT.natAbs : Int)) / c.mtLim)) / (w.1 + w.2.1 + w.2.2))) ∧
     candidates c snap a =
       (c.scanOrder.filterMap fun n => st.lanes.find? fun k => decide (k.number = n)).filterMap fun k =>
         (laneVerdict c snap a k).map fun u =>
           { lane := u.lane, score := score c a u, front := u.front, centre := u.centre }))

/-- The lane chosen has the highest score and is the first of those in the scan order (R60); the offer
awarded has the highest score and among equals the lowest bay number (R85). -/
def Obligations.BestIsChosen : Prop :=
  ∀ (c : Conf) (snap : Snapshot) (a : Arrival) (x : Choice) (os : List Offer) (o : Offer),
    (chooseLane c snap a = some x →
      ∃ pre post, candidates c snap a = pre ++ x :: post ∧ (∀ y ∈ pre, y.score < x.score) ∧
        ∀ y ∈ post, y.score ≤ x.score) ∧
    (chooseLane c snap a = none ↔ candidates c snap a = []) ∧
    (bestOffer os = some o →
      o ∈ os ∧ ∀ y ∈ os,
        y.score < o.score ∨ (y.score = o.score ∧ o.bay.toNat ≤ y.bay.toNat)) ∧
    (bestOffer os = none ↔ os = [])

/-- The bytes of a frame determine the frame, its length byte is that of its payload, and what was sent
agrees with its check word (R163). -/
def Obligations.FrameBytesDetermineFrame : Prop :=
  ∀ (f g : Frame),
    (f.bytes = g.bytes → f = g) ∧ f.payload.bytes.length = f.payload.length ∧
    f.bytes.length = f.payload.length + 7 ∧
    frameAgrees
      { cls := BitVec.ofNat 8 f.payload.cls, source := f.source, callNumber := f.callNumber
        length := BitVec.ofNat 8 f.payload.length, check := checkWord f.body } f.payload = true

/-! ## Starts, the configuration store and the retained copy -/

/-- POWER_ON breaks every write in flight and makes a start due (R177, R179); CONFIGURATION_WRITE replaces
the store and empties the retained copy, and no copy is written until the next start (R178).
COPY_WRITE_COMPLETION: the part holds what its write carried, and a further write marked pending begins at
once with the contents as they stand; a part with no write in flight, and every other part, is left as it
was (R179). -/
def Obligations.RetainedCopyWrites : Prop :=
  (∀ (s : State) (k : ConfigStore),
     (∃ t, exec .powerOn s = .next t ∧ t.life = .starting ∧
       List.Forall₂ (fun p q : LanePart => q.number = p.number ∧ q.part.writing = none ∧
         q.part.kept = if p.part.writing = none then p.part.kept else .invalid)
         s.retained.lanes t.retained.lanes ∧
       t.retained.inbound.writing = none ∧
       t.retained.inbound.kept =
         (if s.retained.inbound.writing = none then s.retained.inbound.kept else .invalid) ∧
       t.retained.node.writing = none ∧
       t.retained.node.slotA =
         (if s.retained.node.writing.map Prod.fst = some .a then .invalid
           else s.retained.node.slotA) ∧
       t.retained.node.slotB =
         (if s.retained.node.writing.map Prod.fst = some .b then .invalid
           else s.retained.node.slotB) ∧
       t.retained.node.later = s.retained.node.later ∧ t.retained.stopped = s.retained.stopped ∧
       { t with life := s.life, retained := s.retained, handed := s.handed } = s) ∧
     (∃ t, exec (.configurationWrite k) s = .next t ∧ t.store = k ∧
       t.retained = { Retained.blank with stopped := true } ∧
       { t with store := s.store, retained := s.retained, handed := s.handed } = s)) ∧
  (∀ (s : State) (n : Nat),
     (∀ l, s.table.lane? n = some l →
       ∃ t, exec (.copyWriteCompletion (.lane n)) s = .next t ∧
         List.Forall₂ (fun p q : LanePart => q.number = p.number ∧
           (p.number ≠ n ∨ p.part.writing = none → q = p) ∧
           (p.number = n → ∀ c, p.part.writing = some c → q.part.kept = .valid c ∧
             q.part.writing = (if p.part.further then some l.copy else none) ∧
             q.part.further = false)) s.retained.lanes t.retained.lanes ∧
         { t with
           retained := { t.retained with lanes := s.retained.lanes }, handed := s.handed } = s) ∧
     (∃ t, exec (.copyWriteCompletion .inbound) s = .next t ∧
       (s.retained.inbound.writing = none → t.retained.inbound = s.retained.inbound) ∧
       (∀ c, s.retained.inbound.writing = some c →
         t.retained.inbound =
           { kept := .valid c
             writing := if s.retained.inbound.further then some s.inboundCopy else none
             further := false }) ∧
       { t with
         retained := { t.retained with inbound := s.retained.inbound }, handed := s.handed } = s) ∧
     (∃ t, exec (.copyWriteCompletion .node) s = .next t ∧
       (s.retained.node.writing = none → t.retained.node = s.retained.node) ∧
       (∀ w, s.retained.node.writing = some w →
         t.retained.node.slot w.1 = .valid w.2 ∧
         t.retained.node.slot w.1.other = s.retained.node.slot w.1.other ∧
         t.retained.node.later = w.1 ∧ t.retained.node.read = w.2 ∧
         t.retained.node.writing =
           if s.retained.node.further then some (s.retained.node.next, s.nodeCopy) else none) ∧
       { t with
         retained := { t.retained with node := s.retained.node }, handed := s.handed } = s))

/-- START at a node whose store makes it a bay (R24, R177, R178, R180, R181): the lanes and the inbound list
are restored from the retained copy, the survey is requested, the listen interval runs, a TALLY is built,
and a stop line found high acts as a rising edge. It raises CONFIG CLAMPED when a field was altered, LANE
FAULT for each lane restored in FAULT, the conditions that restored flags raise lane by lane, and STOP when
the stop line is found high, in this order (R8, R178, R181). -/
def Obligations.StartOfABay : Prop :=
  (∀ (s : State) (stopHigh : Bool) (g : Fin 4),
     s.startDue = true → ∀ x, loadConfig s.store = some x → x.1.role = .bay →
       ∃ t, exec (.start stopHigh g) s = .next t ∧
         t.life = .running ∧ t.node = .listen ∧ t.conf = x.1 ∧ t.stopLine = stopHigh ∧
         t.gradientPin = g ∧ t.listenDue = some (s.now + 1000 * x.1.listenInterval) ∧
         t.sensor = { surveyDue := some (s.now + 20000), replied := [], withheld := 0 } ∧
         t.out = { s.out with surveys := s.out.surveys + 1 } ∧
         t.rounds = RoundController.initial ∧ t.table.reservations = [] ∧
         t.table.lanes.map (·.conf) = x.1.lanes ∧
         (∀ l ∈ t.table.lanes, l.number = l.conf.number ∧ l.suspect = false ∧
           (let st : LaneState :=
             match s.retained.keptLane l.number with
             | .blank => OpenClosed.asStored l.conf.firstState
             | .invalid => .opened
             | .valid c => if c.sound x.1.gap l.conf then c.stored else .opened;
           l.stored =
             if stopHigh then
               (match st with
                 | .opened => .closed
                 | .closed => .closed
                 | .fault _ => .fault .closed)
             else st) ∧
           (match s.retained.keptLane l.number with
             | .blank => l.placed = [] ∧ l.used = 0 ∧ l.sockets = 0
             | .invalid => l.placed = [] ∧ l.used = 0 ∧ l.sockets = 0
             | .valid c =>
               if c.used = extentSum x.1.gap c.placed ∧ c.sockets ≤ l.conf.sockets then
                 l.used = c.used ∧ l.sockets = c.sockets ∧
                 l.placed = c.placed.map fun r =>
                   { r with
                     lashDue :=
                       if r.status = .lashing then some (s.now + 1000 * lashLimit x.1.lashClass)
                       else none }
               else l.placed = [] ∧ l.used = 0 ∧ l.sockets = 0)) ∧
         t.table.inbound =
           (s.retained.keptInbound.filter fun e =>
             t.table.lanes.any (fun l => decide (l.number = e.lane)) &&
               !(t.table.lanes.any fun l =>
                 l.placed.any fun r => decide (r.booking = some e.arrival.booking))).map
             (fun e => { e with
               travelDue := some (s.now + 1000 * x.1.travelLimit), interrupted := true }) ∧
         t.eval = { Evaluator.idle with
           congested := decide (x.1.congestHigh ≤ t.table.inbound.length) } ∧
         t.tally =
           { callNumber := s.retained.node.read.callNumber, ownT := t.table.sumT
             ownL := t.table.sumL, seq := s.retained.node.read.tallySeq + 1
             lastBuild := some s.now, pendingChange := false, peers := [] } ∧
         t.dli = (Dli.initial.handInNormal t.tally.callNumber
           (.tally (t.tallyPayload t.tally.seq))).1 ∧
         Copied
           (((x.1.lanes.filter fun k =>
             writtenAtStart x.1.gap k (s.retained.keptLane k.number)).map (·.number)) ++
             (if stopHigh then (restoredTable s.now x.1 s.retained).stopChanges else []))
           (s.retained.inboundWritten t.table.lanes) true
           { s with retained := { s.retained with stopped := false } } t ∧
         t.now = s.now ∧ t.store = s.store ∧ t.pending = s.pending) ∧
  (∀ (s : State) (stopHigh : Bool) (g : Fin 4),
     s.startDue = true → ∀ x, loadConfig s.store = some x → x.1.role = .bay →
       ∃ t, exec (.start stopHigh g) s = .next t ∧
         t.conditions =
           ((if x.2 then [(Code.configClamped, none)] else []) ++
             ((restoredTable s.now x.1 s.retained).lanes.filterMap fun (l : Lane) =>
               match l.stored with
               | .fault _ => some (Code.laneFault, some l.number)
               | .opened => none
               | .closed => none) ++
             ((restoredTable s.now x.1 s.retained).lanes.flatMap fun (l : Lane) =>
               let has (fs : List Flag) : Bool :=
                 l.placed.any fun r => r.flags.any fun f => fs.contains f;
               (if has [.overstow, .segregation, .axle, .filter, .noSocket]
                 then [(Code.placementBreach, some l.number)] else []) ++
               (if has [.misdirected] then [(Code.misdirected, some l.number)] else []) ++
               (if has [.overcarried] then [(Code.overcarried, some l.number)] else [])) ++
             (if stopHigh then [(Code.stop, none)] else [])).foldl
             (fun cs (k : Code × Option Nat) => raiseCondition s.now k.1 k.2 cs) [])

/-- START at a node whose store makes it a ramp, where the whole next state is as R180 and R181 give it; at
a node left UNCONFIGURED, which a store without a role, with a bay number outside 1..48, with no usable
lane, or with a ramp id outside 0..3 makes it (R178), sampling no gradient class
there by the model's choice (log entry 34); and a START that is not due. -/
def Obligations.StartOfARampOrNone : Prop :=
  ∀ (s : State) (stopHigh : Bool) (g : Fin 4),
    (s.startDue = true → ∀ x, loadConfig s.store = some x → x.1.role = .ramp →
      exec (.start stopHigh g) s = .next
        { s with
          stopLine := stopHigh, gradientPin := g, life := .running, node := .listen, conf := x.1
          table := LaneTable.empty, eval := Evaluator.idle
          tally := { TallyUnit.initial with callNumber := s.retained.node.read.callNumber }
          dli := Dli.initial
          rounds := { RoundController.initial with
            seq := s.retained.node.read.roundSeq, gradient := g }
          conditions :=
            (if x.2 then [{ code := .configClamped, lane := none, count := 1, age := s.now }]
              else []) ++
            (if stopHigh then [{ code := .stop, lane := none, count := 1, age := s.now }] else [])
          sensor := SensorPort.initial, listenDue := some (s.now + 1000 * x.1.listenInterval)
          retained := { s.retained with stopped := false }, handed := HandedOn.clear }) ∧
    (s.startDue = true → loadConfig s.store = none →
      exec (.start stopHigh g) s = .next
        { s with
          stopLine := stopHigh, gradientPin := g, life := .running, node := .unconfigured
          table := LaneTable.empty, eval := Evaluator.idle, tally := TallyUnit.initial
          dli := Dli.initial, rounds := RoundController.initial, conditions := []
          sensor := SensorPort.initial, listenDue := none
          retained := { s.retained with stopped := false }, handed := HandedOn.clear }) ∧
    (loadConfig s.store = none ↔
      s.store.role = .neither ∨
        (s.store.role = .bay ∧ (s.store.nodeNumber < 1 ∨ 48 < s.store.nodeNumber ∨
          ∀ e ∈ s.store.lanes, e.number < 0 ∨ 7 < e.number)) ∨
        (s.store.role = .ramp ∧ (s.store.rampId < 0 ∨ 3 < s.store.rampId))) ∧
    (s.startDue = false → exec (.start stopHigh g) s = .next s.unmoved) ∧
    (s.startDue = true ↔
      s.life = .starting ∨ (s.life = .closing ∧ s.retained.writeInFlight = false))

/-! ## Crew commands of the panel line -/

/-- OPEN on a lane (R20), and what a lane change hands on (R18). OPEN ALL at a bay makes every CLOSED lane
OPEN and leaves the others, and is answered TAKEN; with no CLOSED lane nothing is handed on (R18, R20). -/
def Obligations.OpenOfLanes : Prop :=
  (∀ (s : State) (n : Nat),
     s.IsBay → s.RoleApart → ∀ l, s.table.lane? n = some l →
       (l.stored = .opened → exec (.openLane n) s = .next (s.answered .taken)) ∧
       (l.stored = .fault .opened ∨ l.stored = .fault .closed →
         exec (.openLane n) s = .next (s.answered .refused)) ∧
       (l.stored = .closed →
         ∃ t, exec (.openLane n) s = .next t ∧
           t.table = { s.table with
             lanes := s.table.lanes.map fun k =>
               if k.number = n then { k with stored := .opened } else k } ∧
           t.out = { s.out with panel := s.out.panel ++ [.taken] } ∧
           TallyCaused s.dli s t ∧ SumsMoved 0 0 s t ∧ Copied [n] false (s.buildsNow s.dli) s t ∧
           { t with
             table := s.table, out := s.out, tally := s.tally, dli := s.dli
             retained := s.retained, handed := s.handed } = s)) ∧
  (∀ (s : State),
     s.IsBay → s.RoleApart →
       ∃ t, exec .openAll s = .next t ∧
         t.table = { s.table with
           lanes := s.table.lanes.map fun k =>
             if k.stored = .closed then { k with stored := .opened } else k } ∧
         t.out = { s.out with panel := s.out.panel ++ [.taken] } ∧
         (if (∀ k ∈ s.table.lanes, k.stored ≠ .closed) then t = s.answered .taken
           else TallyCaused s.dli s t ∧ SumsMoved 0 0 s t ∧
             Copied ((s.table.lanes.filter fun k => decide (k.stored = .closed)).map (·.number)) false
               (s.buildsNow s.dli) s t) ∧
         { t with
           table := s.table, out := s.out, tally := s.tally, dli := s.dli
           retained := s.retained, handed := s.handed } = s)

/-- CLOSE on a lane removes its suspect mark, makes an OPEN lane CLOSED and the remembered state of a lane
in FAULT CLOSED, and is answered TAKEN; only a changed stored or remembered state is handed on (R18, R21). -/
def Obligations.CloseOfALane : Prop :=
  ∀ (s : State) (n : Nat),
    s.IsBay → s.RoleApart → s.table.Distinct → ∀ l, s.table.lane? n = some l →
      ∃ t, exec (.closeLane n) s = .next t ∧
        t.table = { s.table with
          lanes := s.table.lanes.map fun k =>
            if k.number = n then
              { k with
                suspect := false
                stored := match k.stored with
                  | .opened => .closed
                  | .closed => .closed
                  | .fault _ => .fault .closed }
            else k } ∧
        t.out = { s.out with panel := s.out.panel ++ [.taken] } ∧
        (if l.stored = .opened ∨ l.stored = .fault .opened then
            TallyCaused s.dli s t ∧ SumsMoved 0 0 s t ∧ Copied [n] false (s.buildsNow s.dli) s t
          else t.tally = s.tally ∧ t.dli = s.dli ∧ t.retained = s.retained) ∧
        { t with
          table := s.table, out := s.out, tally := s.tally, dli := s.dli
          retained := s.retained, handed := s.handed } = s

/-- RELEASE gives the rearmost rankless UNIDENTIFIED record of the lane the stated rank, is answered TAKEN and
restarts an evaluation in flight; it is refused with a rank outside 1..15, with no such record, and in
WITHDRAWN (R18, R19, R22). -/
def Obligations.ReleaseOfALane : Prop :=
  ∀ (s : State) (n rank i : Nat),
    s.IsBay → ∀ l, s.table.lane? n = some l →
      (s.node ≠ .withdrawn → 1 ≤ rank → rank ≤ 15 → ∀ r, l.placed[i]? = some r →
        r.status = .unidentified ∧ r.rank = none →
        (∀ x ∈ l.placed.drop (i + 1), ¬ (x.status = .unidentified ∧ x.rank = none)) →
          ∃ t, exec (.release n rank) s = .next t ∧
            t.table = { s.table with
              lanes := s.table.lanes.map fun k =>
                if k.number = n then
                  { k with placed := l.placed.set i { r with rank := some rank } }
                else k } ∧
            t.out = { s.out with panel := s.out.panel ++ [.taken] } ∧
            EvaluatorKept true s t ∧ Copied [n] false false s t ∧
            { t with
              table := s.table, out := s.out, eval := s.eval, retained := s.retained
              handed := s.handed } = s) ∧
      ((s.node = .withdrawn ∨ rank < 1 ∨ 15 < rank ∨
          ∀ x ∈ l.placed, ¬ (x.status = .unidentified ∧ x.rank = none)) →
        exec (.release n rank) s = .next (s.answered .refused))

/-- LASH CONFIRM makes every LASHING and UNLASHED record of the lane LASHED, stops their timers, clears LASH
UNCONFIRMED for the lane and is answered TAKEN; records of other status stand, and the copy is written
when a status changed (R117, R133). The expiry of a record's lash timer makes it UNLASHED and raises LASH
UNCONFIRMED for its lane (R132), with which the clock has reached the expiry time, the model's choice (log
entry 1); a booking with no running lash timer is left as it is. -/
def Obligations.LashingConfirmedOrOver : Prop :=
  (∀ (s : State) (n : Nat),
     s.IsBay → s.table.Distinct → ∀ l, s.table.lane? n = some l →
       ∃ t, exec (.lashConfirm n) s = .next t ∧
         t.table = { s.table with
           lanes := s.table.lanes.map fun k =>
             if k.number = n then
               { k with
                 placed := k.placed.map fun r =>
                   if r.status = .lashing ∨ r.status = .unlashed then
                     { r with status := .lashed, lashDue := none }
                   else r }
             else k } ∧
         t.conditions = s.conditions.eraseP (fun c =>
           decide (c.code = .lashUnconfirmed) && decide (c.lane = some n)) ∧
         t.out = { s.out with panel := s.out.panel ++ [.taken] } ∧
         Copied
           (if ∃ r ∈ l.placed, r.status = .lashing ∨ r.status = .unlashed then [n] else [])
           false false s t ∧
         { t with
           table := s.table, conditions := s.conditions, out := s.out, retained := s.retained
           handed := s.handed } = s) ∧
  (∀ (s : State) (b : Nat),
     s.IsBay →
       (∀ l, s.table.lanes.find? (fun l => l.placed.any (Record.lashRuns b)) = some l →
         ∀ r, l.placed.find? (Record.lashRuns b) = some r → ∀ due, r.lashDue = some due →
           ∃ t, exec (.lashTimerExpiry b) s = .next t ∧ t.now = max s.now due ∧
             t.table = { s.table with
               lanes := s.table.lanes.map fun k =>
                 if k.number = l.number then
                   { k with
                     placed := k.placed.map fun r =>
                       if r.booking = some b ∧ r.status = .lashing ∧ r.lashDue ≠ none then
                         { r with status := .unlashed, lashDue := none }
                       else r }
                 else k } ∧
             t.conditions = raiseCondition t.now .lashUnconfirmed (some l.number) s.conditions ∧
             Copied [l.number] false false s t ∧
             { t with
               now := s.now, table := s.table, conditions := s.conditions
               retained := s.retained, handed := s.handed } = s) ∧
       ((∀ l ∈ s.table.lanes, ∀ r ∈ l.placed, r.booking = some b → r.status = .lashing →
           r.lashDue = none) →
         exec (.lashTimerExpiry b) s = .next s.unmoved))

/-- The refusals of R19 and R114: lane commands at a ramp and for a lane number without a lane record, OPEN
ALL at a ramp, and ADVANCE PORT at a bay, outside ACTIVE and while an advance is held; the commands are
answered REFUSED and change nothing. -/
def Obligations.CommandsRefused : Prop :=
  ∀ (s : State) (n rank : Nat),
    (s.Configured → (s.conf.role = .ramp ∨ s.table.lane? n = none) →
      exec (.openLane n) s = .next (s.answered .refused) ∧
      exec (.closeLane n) s = .next (s.answered .refused) ∧
      exec (.release n rank) s = .next (s.answered .refused) ∧
      exec (.lashConfirm n) s = .next (s.answered .refused)) ∧
    (s.IsRamp → exec .openAll s = .next (s.answered .refused)) ∧
    (s.IsBay ∨ (s.IsRamp ∧ s.node ≠ .active) ∨
        (s.IsRamp ∧ s.rounds.openRound ≠ none ∧ s.rounds.heldAdvance = true) →
      exec .advancePort s = .next (s.answered .refused))

/-- ACK removes the condition that the display shows, when ACK clears its code, and is answered TAKEN; at a
ramp an ACK that clears STOP is an event at which R82 looks (R82, R166, R167, R168). -/
def Obligations.AckOfACondition : Prop :=
  ∀ (s : State),
    s.Configured →
      (∀ k, shownCondition s.conf.alarmMask s.conditions = some k →
        (k.code = .withdrawn ∨ k.code = .lineSilent ∨ k.code = .laneFault ∨
          k.code = .lashUnconfirmed → exec .ack s = .next (s.answered .taken)) ∧
        (¬ (k.code = .withdrawn ∨ k.code = .lineSilent ∨ k.code = .laneFault ∨
            k.code = .lashUnconfirmed) →
          (let u : State := { s.answered .taken with
            conditions := s.conditions.eraseP fun c =>
              decide (c.code = k.code) && decide (c.lane = k.lane) };
          (k.code ≠ .stop ∨ s.conf.role = .bay → exec .ack s = .next u) ∧
          (k.code = .stop → s.conf.role = .ramp →
            ∃ t, exec .ack s = .next t ∧ Looked false u t)))) ∧
      (shownCondition s.conf.alarmMask s.conditions = none →
        exec .ack s = .next (s.answered .taken))

/-- ADVANCE PORT at an ACTIVE ramp: with no round open the call number is raised by one and a PORTCALL that
carries it handed to the line (to a queue with room, or discarded in SILENT); with a round open the
advance is held; each is answered TAKEN (R114, R115, R144). -/
def Obligations.AdvanceOfThePort : Prop :=
  ∀ (s : State),
    s.IsRamp → s.node = .active →
      (s.rounds.openRound = none → s.dli.hasRoom 1 →
        ∃ t, exec .advancePort s = .next t ∧
          t.tally = { s.tally with callNumber := s.tally.callNumber + 1 } ∧
          t.dli = s.dli.taking (s.tally.callNumber + 1) (.portcall (s.tally.callNumber + 1)) ∧
          t.rounds = { s.rounds with heldAdvance := false } ∧
          t.out = { s.out with panel := s.out.panel ++ [.taken] } ∧ Copied [] false true s t ∧
          { t with
            tally := s.tally, dli := s.dli, rounds := s.rounds, out := s.out
            retained := s.retained, handed := s.handed } = s) ∧
      (s.rounds.openRound ≠ none → s.rounds.heldAdvance = false →
        exec .advancePort s = .next
          { s.answered .taken with rounds := { s.rounds with heldAdvance := true } })

/-! ## Changes of the discrete inputs -/

/-- A rising edge of the stop line at a bay: STOP is raised, every OPEN lane and every remembered state
becomes CLOSED, the suspect marks go, the evaluation and its queue are given up and every reservation is
released with its OFFER (R23, R77, R169, R170). -/
def Obligations.StopLineAtABay : Prop :=
  ∀ (s : State),
    s.IsBay → s.RoleApart →
      ∃ t, exec .stopLineRisingEdge s = .next t ∧ t.stopLine = true ∧
        t.conditions = raiseCondition s.now .stop none s.conditions ∧
        t.table = { s.table with
          reservations := []
          lanes := s.table.lanes.map fun k =>
            { k with
              suspect := false
              stored := match k.stored with
                | .opened => .closed
                | .closed => .closed
                | .fault _ => .fault .closed } } ∧
        t.eval = { s.eval with inFlight := none, callQueue := [] } ∧
        (let d := s.dli.offersOut (s.table.reservations.map (·.round));
        let ns := (s.table.lanes.filter fun k =>
          decide (k.stored = .opened ∨ k.stored = .fault .opened)).map (·.number);
        if ns = [] then t.tally = s.tally ∧ t.dli = d ∧ t.retained = s.retained
        else TallyCaused d s t ∧ SumsMoved 0 0 s t ∧ Copied ns false (s.buildsNow d) s t) ∧
        { t with
          stopLine := s.stopLine, conditions := s.conditions, table := s.table, eval := s.eval
          tally := s.tally, dli := s.dli, retained := s.retained, handed := s.handed } = s

/-- A rising edge of the stop line at a ramp raises STOP and abandons the open round: its CALL leaves the
queue, the called entry returns to the head without its mark and its not-before time, its attempts
unchanged, and a held advance is acted on; no round opens while STOP is pending (R82, R115, R116, R154,
R169). At an UNCONFIGURED or closed node the edge acts on nothing. -/
def Obligations.StopLineAtARamp : Prop :=
  ∀ (s : State),
    (s.IsRamp → s.rounds.openRound = none →
      exec .stopLineRisingEdge s = .next
        { s.unmoved with
          stopLine := true, conditions := raiseCondition s.now .stop none s.conditions }) ∧
    (s.IsRamp → ∀ o, s.rounds.openRound = some o → ∀ w, s.rounds.waiting.find? (·.called) = some w →
      ∃ t, exec .stopLineRisingEdge s = .next t ∧
          (let v : State :=
            { s with
              stopLine := true, conditions := raiseCondition s.now .stop none s.conditions
              dli := s.dli.takeOut (Payload.isCallOf o.round)
              rounds := { s.rounds with
                openRound := none
                waiting := { w with called := false, notBefore := none } ::
                  s.rounds.waiting.eraseP (·.called) } };
          Copied [] false s.rounds.heldAdvance s t ∧
            { t with retained := s.retained, handed := s.handed } = v.heldActed)) ∧
    (¬ s.Configured →
      exec .stopLineRisingEdge s = .next { s.unmoved with stopLine := true })

/-- A change of the gradient class is taken at a configured ramp, where R82 then looks (R107); elsewhere it
is only the level of the input, which for an UNCONFIGURED node is the model's choice (log entry 34). The
passing of a waiting entry's not-before time is an event at which R82 looks (R82, R106), with which the clock
has reached that time, the model's choice (log entry 1). -/
def Obligations.GradientAndNotBefore : Prop :=
  ∀ (s : State) (g : Fin 4) (b : Nat),
    (s.IsRamp →
      ∃ t, exec (.gradientClassChange g) s = .next t ∧
        Looked false { s with gradientPin := g, rounds := { s.rounds with gradient := g } } t) ∧
    (¬ s.IsRamp →
      exec (.gradientClassChange g) s = .next { s.unmoved with gradientPin := g }) ∧
    (s.IsRamp → ∀ w, s.rounds.waiting.find? (fun w => decide (w.arrival.booking = b)) = some w →
      ∀ due, w.notBefore = some due →
        ∃ t, exec (.notBeforeTimePasses b) s = .next t ∧
          Looked false { s with now := max s.now due } t) ∧
    (s.IsRamp → (∀ w ∈ s.rounds.waiting, w.arrival.booking = b → w.notBefore = none) →
      exec (.notBeforeTimePasses b) s = .next s.unmoved)

/-! ## The gate line -/

/-- ARRIVAL at a ramp: the first case of R102 that the record meets refuses it with its reason; otherwise it
is brought into range, marked CLAMPED when a field changed, and appended to the waiting queue, the gate
hold follows the count and R82 looks (R82, R102, R103, R104, R113). A record whose check word disagrees,
of an unknown code or of a length that is not its code's, or that reaches no configured ramp, is discarded
without a disposition (R162; a record of no row is given to the model as its log entry 16 says). -/
def Obligations.ArrivalAtARamp : Prop :=
  ∀ (s : State) (w : ArrivalWire) (check : RxCheck),
    (s.IsRamp → check = { word := checkWord ([1] ++ ArrivalWire.bytes w) } →
      (let a := Arrival.ofWire w;
      let refusal : Option RefusedReason :=
        if w.booking.toNat = 0 then some .noBooking
        else if w.kind.toNat = 0 ∨ 5 < w.kind.toNat then some .badKind
        else if 250 < w.length.toNat then some .tooLong
        else if 600 < w.weight.toNat then some .tooHeavy
        else if 6 < w.hazard.toNat then some .badHazard
        else if w.booking.toNat ∈ s.rounds.bookings then some .duplicate
        else if 16 ≤ s.rounds.waiting.length then some .queueFull
        else none;
      (∀ reason, refusal = some reason →
        exec (.arrival w check) s =
          .next { s.disposed w.booking.toNat (.refused reason) with handed := HandedOn.clear }) ∧
      (refusal = none →
        ∃ t, exec (.arrival w check) s = .next t ∧
          Looked false
            (s.waitingNow (s.rounds.waiting ++
              [{ arrival := { a with
                    length := max 20 a.length, width := max 15 (min 45 a.width)
                    height := max 10 (min 50 a.height), weight := max 5 a.weight
                    axle := max 5 (min 200 a.axle), rank := max 1 (min 15 a.rank)
                    clamped := !(decide (20 ≤ a.length) && decide (15 ≤ a.width) &&
                      decide (a.width ≤ 45) && decide (10 ≤ a.height) && decide (a.height ≤ 50) &&
                      decide (5 ≤ a.weight) && decide (5 ≤ a.axle) && decide (a.axle ≤ 200) &&
                      decide (1 ≤ a.rank) && decide (a.rank ≤ 15)) }
                 attempts := 0, notBefore := none, called := false }])) t))) ∧
    (¬ s.IsRamp ∨ check.form ≠ .asRow ∨ check.word ≠ checkWord ([1] ++ ArrivalWire.bytes w) →
      exec (.arrival w check) s = .next s.unmoved)

/-! ## Frames of the deck line -/

/-- A CALL that a bay turns away: of a round that is not new, nothing changes; of a new round in one of the
five cases of R65 the round record takes the round and nothing else changes (R65, R66). A frame of any kind
that reaches no configured node or does not agree with its check word is not acknowledged and changes nothing
(R150, R156); one that agrees and is malformed is acknowledged and changes nothing else, and the malformed
frames are those of the cases of R161: of no row's kind, subtype and payload size (given to the model as its
log entry 16 says), of another class or length than its kind's, from no node number, a CALL with an offer
window outside 10..200, or a TALLY whose call number differs from the header's. -/
def Obligations.CallTurnedAway : Prop :=
  (∀ (s : State) (h : RxHeader) (p : CallPayload),
     (s.Hears h (.call p) → s.conf.role = .bay →
       (let u := s.caughtUp h;
       let new := u.eval.roundRecord.isNew p.round;
       (new = false → ∃ t, exec (.call h p) s = .next t ∧ Heard h s u t) ∧
       (new = true →
         (u.node ≠ .active ∨ u.dli.line = .silent ∨ u.eval.congested = true ∨
           maskHasDeck p.deckMask u.conf.deck = false ∨
           lags h.callNumber u.tally.callNumber = true) →
         ∃ t, exec (.call h p) s = .next t ∧
           Heard h s { u with eval := { u.eval with
             roundRecord := u.eval.roundRecord.set p.round.ramp p.round.seq } } t))) ∧
     (s.Hears h (.call p) → s.conf.role = .ramp →
       ∃ t, exec (.call h p) s = .next t ∧ Heard h s (s.caughtUp h) t)) ∧
  (∀ (s : State) (c : Instr) (h : RxHeader) (p : Payload),
     frameOf? c = some (h, p) →
       (¬ s.Configured ∨ h.check ≠ checkWord (receivedBytes h p) → exec c s = .next s.unmoved) ∧
       (s.Configured → h.check = checkWord (receivedBytes h p) →
         (h.form ≠ .asRow ∨ h.cls.toNat ≠ p.cls ∨ h.length.toNat ≠ p.length ∨
             h.source.toNat = 0 ∨ (48 < h.source.toNat ∧ h.source.toNat < 60) ∨
             63 < h.source.toNat ∨
             (match p with
               | .call q => q.window.toNat < 10 ∨ 200 < q.window.toNat
               | .tally q => q.callNumber ≠ h.callNumber
               | _ => False)) →
         exec c s = .next { s.unmoved with out := { s.out with acks := s.out.acks + 1 } }) ∧
       (h.form = .asRow → h.cls.toNat = p.cls → h.length.toNat = p.length →
         (1 ≤ h.source.toNat ∧ h.source.toNat ≤ 48) ∨
             (60 ≤ h.source.toNat ∧ h.source.toNat ≤ 63) →
         (match p with
           | .call q => 10 ≤ q.window.toNat ∧ q.window.toNat ≤ 200
           | .tally q => q.callNumber = h.callNumber
           | _ => True) →
         frameWellFormed h p = true))

/-- A CALL admitted by a bay: the older rounds of its ramp are closed (R67), the CALL is queued with its
receipt time and with half its offer window as its time to answer, dropped and counted when 4 wait, and
taken at once by an IDLE evaluator (R64, R66, R67, R68, R69, R70). -/
def Obligations.CallAdmitted : Prop :=
  ∀ (s : State) (h : RxHeader) (p : CallPayload),
    s.Hears h (.call p) → s.conf.role = .bay → s.PromisesHeld → s.RoleApart →
      (let u := s.caughtUp h;
      u.eval.roundRecord.isNew p.round = true → u.node = .active → u.dli.line = .normal →
        u.eval.congested = false → maskHasDeck p.deckMask u.conf.deck = true →
        lags h.callNumber u.tally.callNumber = false →
          ∃ t, exec (.call h p) s = .next t ∧
            (let old (x : RoundId) : Bool := decide (x.ramp = p.round.ramp) && lags x.seq p.round.seq;
            let gone := (u.table.reservations.filter fun x => old x.round).map (·.round);
            let c : QueuedCall :=
              { round := p.round, callNumber := h.callNumber, deckMask := p.deckMask
                window := 10 * p.window.toNat, arrival := Arrival.ofWire p.arrival
                receipt := s.now, deadline := s.now + 5 * p.window.toNat };
            let q := u.eval.callQueue.filter fun x => !(old x.round);
            let fresh (x : QueuedCall) : Evaluation :=
              { call := x, snapshot := t.snapshot, restarts := 0 };
            let full (n : Nat) : Nat := if n < 4 then u.eval.dropped else min 255 (u.eval.dropped + 1);
            t.table = { u.table with
              reservations := u.table.reservations.filter fun x => !(old x.round) } ∧
            t.dli = u.dli.offersOut gone ∧
            t.eval.roundRecord = u.eval.roundRecord.set p.round.ramp p.round.seq ∧
            t.eval.congested = false ∧
            (match u.eval.inFlight.filter fun v => !(old v.call.round) with
              | some v =>
                t.eval.inFlight =
                  (if gone ≠ [] ∨ s.caughtBay h = true then
                    some { v with snapshot := t.snapshot, restarts := v.restarts + 1 }
                  else some v) ∧
                t.eval.callQueue = (if q.length < 4 then q ++ [c] else q) ∧
                (u.eval.dropped ≤ 255 → t.eval.dropped = full q.length)
              | none =>
                match liveCalls s.now q with
                | [] =>
                  t.eval.inFlight = some (fresh c) ∧ t.eval.callQueue = [] ∧
                    t.eval.dropped = u.eval.dropped
                | x :: rest =>
                  t.eval.inFlight = some (fresh x) ∧
                  t.eval.callQueue = (if rest.length < 4 then rest ++ [c] else rest) ∧
                  (u.eval.dropped ≤ 255 → t.eval.dropped = full rest.length)) ∧
            Copied (s.caughtLanes h) (s.caughtBay h) (s.behind h) s t ∧
            { t with
              table := u.table, dli := u.dli, eval := u.eval, retained := u.retained
              handed := u.handed } = u))

/-- OFFER at a ramp: taken into the offer list of the open round when it meets every test of R84, and
ignored otherwise; a bay takes no OFFER (R84, R161). -/
def Obligations.OfferTaken : Prop :=
  ∀ (s : State) (h : RxHeader) (p : OfferPayload),
    s.Hears h (.offer p) →
      (let u := s.caughtUp h;
      (s.conf.role = .ramp → ∀ o, u.rounds.openRound = some o →
        p.round = o.round → lags h.callNumber u.tally.callNumber = false →
        1 ≤ p.bay.toNat → p.bay.toNat ≤ 48 → p.bay = h.source →
        maskHasDeck o.deckMask p.deck.toNat = true → p.lane.toNat ≤ 7 → p.score.toNat ≤ 256 →
        (∀ x ∈ o.offers, x.bay ≠ p.bay) →
          ∃ t, exec (.offer h p) s = .next t ∧
            Heard h s { u with rounds := { u.rounds with
              openRound := some { o with
                offers := o.offers ++
                  [{ bay := p.bay, deck := p.deck, lane := p.lane, score := p.score.toNat }] } } }
              t) ∧
      (s.conf.role = .bay ∨ u.rounds.openRound = none ∨
          (∃ o ∈ u.rounds.openRound,
            p.round ≠ o.round ∨ lags h.callNumber u.tally.callNumber = true ∨
            p.bay.toNat < 1 ∨ 48 < p.bay.toNat ∨ p.bay ≠ h.source ∨
            maskHasDeck o.deckMask p.deck.toNat = false ∨ 7 < p.lane.toNat ∨ 256 < p.score.toNat ∨
            ∃ x ∈ o.offers, x.bay = p.bay) →
        ∃ t, exec (.offer h p) s = .next t ∧ Heard h s u t))

/-- An AWARD naming the bay and the lane of the reservation it holds for the round, with room in the
inbound list, converts the reservation: an inbound entry with its travel timer at the full limit, its
moments in the own sums, the congestion state following, a TALLY caused and the inbound copy written (R18,
R49, R78, R92, R117). -/
def Obligations.AwardConverts : Prop :=
  ∀ (s : State) (h : RxHeader) (p : AwardPayload),
    s.Hears h (.award p) → s.conf.role = .bay → s.RoleApart →
      (let u := s.caughtUp h;
      ∀ r, u.table.reservations.find? (fun x => decide (x.round = p.round)) = some r →
        p.bay = BitVec.ofNat 8 u.conf.nodeNumber → r.lane = p.lane.toNat →
        u.table.inbound.length < 6 →
          ∃ t, exec (.award h p) s = .next t ∧
            t.table = { u.table with
              reservations := u.table.reservations.erase r
              inbound := u.table.inbound ++
                [{ round := r.round, lane := r.lane, arrival := r.arrival, front := r.front
                   centre := r.centre, travelDue := some (s.now + 1000 * u.conf.travelLimit)
                   interrupted := false }] } ∧
            SumsMoved (r.arrival.weight * u.table.armOf r.lane)
              (r.arrival.weight * max (-1200) (min 1200 r.centre)) u t ∧
            CongestionFollowed u t ∧ TallyCaused u.dli u t ∧
            Copied (s.caughtLanes h) true (s.behind h || u.buildsNow u.dli) s t ∧
            { t with
              table := u.table, tally := u.tally, eval := u.eval, dli := u.dli
              retained := u.retained, handed := u.handed } = u)

/-- Every other AWARD at a bay: naming another bay it releases the round's reservation (R96); naming this one
it is ignored when the round stands already in the inbound or a placed list (R91), answered DECLINE NO
RESERVATION when nothing is held (R94), and with a reservation it cannot convert it releases it and
answers LANE MISMATCH (R95) or INBOUND FULL (R93). A ramp takes no AWARD (R161). -/
def Obligations.AwardNotConverted : Prop :=
  ∀ (s : State) (h : RxHeader) (p : AwardPayload),
    s.Hears h (.award p) → s.RoleApart →
      (let u := s.caughtUp h;
      let own := decide (p.bay = BitVec.ofNat 8 u.conf.nodeNumber);
      let held := u.table.reservations.any fun x => decide (x.round = p.round);
      let mismatch := (u.table.reservations.find? fun x => decide (x.round = p.round)).any
        fun r => decide (r.lane ≠ p.lane.toNat);
      let reason : Option Byte :=
        if own = false then none
        else if held = false then
          (if (u.table.inbound.any fun e => decide (e.round = p.round)) ||
              (u.table.lanes.any fun l => l.placed.any fun x => decide (x.round = some p.round))
            then none else some 1)
        else if mismatch = true then some 2
        else some 3;
      (s.conf.role = .bay → (own = false ∨ held = false ∨ mismatch = true ∨
          6 ≤ u.table.inbound.length) →
        ∃ t, exec (.award h p) s = .next t ∧
          t.table = { u.table with
            reservations := u.table.reservations.filter fun x => decide (x.round ≠ p.round) } ∧
          t.dli = (match reason with
            | none => if held = true then u.dli.offersOut [p.round] else u.dli
            | some k =>
              (if held = true then u.dli.offersOut [p.round] else u.dli).taking u.tally.callNumber
                (.decline { round := p.round, reason := k })) ∧
          EvaluatorKept (held || s.caughtBay h) u t ∧
          Copied (s.caughtLanes h) (s.caughtBay h) (s.behind h) s t ∧
          { t with
            table := u.table, dli := u.dli, eval := u.eval, retained := u.retained
            handed := u.handed } = u) ∧
      (s.conf.role = .ramp → ∃ t, exec (.award h p) s = .next t ∧ Heard h s u t))

/-- DECLINE at a ramp: the dispatched entry of its round and source is reported CANCELLED with the reason,
leaves the dispatched list and returns to the head of the waiting queue, its attempts unchanged, where R82
then looks; with 16 waiting it is SHUT OUT instead. A DECLINE that names no such entry of this ramp, or
reaches a bay, is ignored (R82, R110, R113). PLACED and NOTICE MISSING at a ramp: the dispatched entry of
the round, source and booking is reported STOWED, with bay, lane and front distance, or MISSING, and leaves
the dispatched list; one that names no such entry of this ramp, or reaches a bay, is ignored (R111). -/
def Obligations.AnswersOfBays : Prop :=
  (∀ (s : State) (h : RxHeader) (p : DeclinePayload),
     s.Hears h (.decline p) →
       (let u := s.caughtUp h;
       let named (d : DispatchedEntry) : Bool :=
         decide (p.round.ramp = BitVec.ofNat 8 u.conf.rampId) && decide (d.round = p.round) &&
           decide (d.bay = h.source);
       (s.conf.role = .ramp → ∀ d, u.rounds.dispatched.find? named = some d →
         (let v := u.disposed d.arrival.booking (.cancelled (.declined p.reason));
         let v : State :=
           { v with rounds := { v.rounds with dispatched := u.rounds.dispatched.eraseP named } };
         (u.rounds.waiting.length < 16 →
           ∃ t, exec (.decline h p) s = .next t ∧
             Looked (s.behind h)
               (v.waitingNow ({ arrival := d.arrival, attempts := d.attempts, notBefore := none
                                called := false } :: u.rounds.waiting)) t) ∧
         (16 ≤ u.rounds.waiting.length →
           ∃ t, exec (.decline h p) s = .next t ∧
             Heard h s (v.disposed d.arrival.booking (.shutOut .queueFull)) t))) ∧
       (s.conf.role = .bay ∨ u.rounds.dispatched.any named = false →
         ∃ t, exec (.decline h p) s = .next t ∧ Heard h s u t))) ∧
  (∀ (s : State) (h : RxHeader) (p : PlacedPayload) (m : MissingPayload),
     (let u := s.caughtUp h;
     let named (r : RoundId) (b : BookingWord) (d : DispatchedEntry) : Bool :=
       decide (r.ramp = BitVec.ofNat 8 u.conf.rampId) && decide (d.round = r) &&
         decide (d.bay = h.source) && decide (d.arrival.booking = b.toNat);
     let without (f : DispatchedEntry → Bool) (v : State) : State :=
       { v with rounds := { v.rounds with dispatched := u.rounds.dispatched.eraseP f } };
     (s.Hears h (.placed p) → s.conf.role = .ramp →
       u.rounds.dispatched.any (named p.round p.booking) = true →
         ∃ t, exec (.placed h p) s = .next t ∧
           Heard h s (without (named p.round p.booking)
             (u.disposed p.booking.toNat (.stowed p.bay p.lane p.front))) t) ∧
     (s.Hears h (.placed p) →
       s.conf.role = .bay ∨ u.rounds.dispatched.any (named p.round p.booking) = false →
         ∃ t, exec (.placed h p) s = .next t ∧ Heard h s u t) ∧
     (s.Hears h (.noticeMissing m) → s.conf.role = .ramp →
       u.rounds.dispatched.any (named m.round m.booking) = true →
         ∃ t, exec (.noticeMissing h m) s = .next t ∧
           Heard h s (without (named m.round m.booking) (u.disposed m.booking.toNat .missing)) t) ∧
     (s.Hears h (.noticeMissing m) →
       s.conf.role = .bay ∨ u.rounds.dispatched.any (named m.round m.booking) = false →
         ∃ t, exec (.noticeMissing h m) s = .next t ∧ Heard h s u t)))

/-- The peer table of a bay: a TALLY whose bay number is its source's, from a bay in LISTEN or with a
sequence newer than the entry's, or where none is present, becomes the entry, its age 0, marked WITHDRAWN
when it reports that state (R141, R142); NOTICE WITHDRAWN marks its sender's entry; and an entry whose 30 s
have passed is stale (R142). A ramp keeps no peer table (R138). -/
def Obligations.PeerTableKept : Prop :=
  ∀ (s : State) (h : RxHeader) (p : TallyPayload) (bay : Nat),
    (let u := s.caughtUp h;
    (s.Hears h (.tally p) → s.conf.role = .bay →
      (if 1 ≤ p.bay.toNat ∧ p.bay.toNat ≤ 48 ∧ p.bay = h.source ∧
          (p.nodeState = 1 ∨ ∀ e, peer? p.bay u.tally.peers = some e → leads p.seq e.tally.seq = true)
        then
          ∃ t, exec (.tally h p) s = .next t ∧
            Heard h s { u with tally := { u.tally with
              peers := putPeer
                { tally := p, acceptedAt := s.now, withdrawn := decide (p.nodeState = 4) }
                u.tally.peers } } t
        else ∃ t, exec (.tally h p) s = .next t ∧ Heard h s u t)) ∧
    (s.Hears h (.tally p) → s.conf.role = .ramp →
      ∃ t, exec (.tally h p) s = .next t ∧ Heard h s u t) ∧
    (s.Hears h .noticeWithdrawn → s.conf.role = .bay →
      ∃ t, exec (.noticeWithdrawn h) s = .next t ∧
        Heard h s { u with tally := { u.tally with
          peers := u.tally.peers.map fun e =>
            if e.tally.bay = h.source then { e with withdrawn := true } else e } } t) ∧
    (s.Hears h .noticeWithdrawn → s.conf.role = .ramp →
      ∃ t, exec (.noticeWithdrawn h) s = .next t ∧ Heard h s u t)) ∧
    (s.IsBay → ∀ e, s.tally.peers.find? (fun e => decide (e.tally.bay.toNat = bay)) = some e →
      exec (.peerEntryStale bay) s =
          .next { s.unmoved with now := max s.now (e.acceptedAt + 30001) } ∧
        e.stale (max s.now (e.acceptedAt + 30001)) = true) ∧
    (s.IsBay → (∀ e ∈ s.tally.peers, e.tally.bay.toNat ≠ bay) →
      exec (.peerEntryStale bay) s = .next s.unmoved)

/-- PORTCALL acts through its call number alone, and a leading call number of any frame makes the catch-up
(R145, R146): the node takes it; at a bay every rank falls by the number of ports passed, not below 0, a
placed record whose rank was lower than that is flagged OVERCARRIED, and the copies are written, the
evaluation in flight restarted on the lowered lists (R11, R144, R147, R148). That one advance raises OVERCARRIED
lane by lane in the table's order, and in a lane record by record from the far end, is the model's choice
(log entry 32). -/
def Obligations.PortCallTaken : Prop :=
  ∀ (s : State) (h : RxHeader) (n : Byte),
    s.Hears h (.portcall n) →
      (leads h.callNumber s.tally.callNumber = false →
        exec (.portcall h n) s =
          .next { s.unmoved with out := { s.out with acks := s.out.acks + 1 } }) ∧
      (leads h.callNumber s.tally.callNumber = true → s.conf.role = .ramp →
        ∃ t, exec (.portcall h n) s = .next t ∧
          t.tally = { s.tally with callNumber := h.callNumber } ∧ Copied [] false true s t ∧
          { t with tally := s.tally, retained := s.retained, handed := s.handed } =
            { s with out := { s.out with acks := s.out.acks + 1 } }) ∧
      (leads h.callNumber s.tally.callNumber = true → s.conf.role = .bay →
        ∃ t, exec (.portcall h n) s = .next t ∧
          (let d := (h.callNumber - s.tally.callNumber).toNat;
          let low (a : Arrival) : Arrival := { a with rank := a.rank - d };
          t.tally = { s.tally with callNumber := h.callNumber } ∧
          t.table =
            { lanes := s.table.lanes.map fun l =>
                { l with
                  placed := l.placed.map fun r =>
                    match r.rank with
                    | none => r
                    | some k =>
                      { r with
                        rank := some (k - d)
                        flags := if k < d ∧ Flag.overcarried ∉ r.flags then r.flags ++ [.overcarried]
                          else r.flags } }
              reservations := s.table.reservations.map fun r => { r with arrival := low r.arrival }
              inbound := s.table.inbound.map fun e => { e with arrival := low e.arrival } } ∧
          t.eval =
            { s.eval with
              callQueue := s.eval.callQueue.map fun c => { c with arrival := low c.arrival }
              inFlight := s.eval.inFlight.map fun v =>
                { call := { v.call with arrival := low v.call.arrival }
                  snapshot := t.snapshot, restarts := v.restarts + 1 } } ∧
          t.conditions =
            ((List.range d).flatMap fun k => s.table.lanes.flatMap fun l =>
              (l.placed.filter fun r => r.rank.any fun n => decide (n ≤ k)).map fun _ =>
                l.number).foldl
              (fun cs n => raiseCondition s.now .overcarried (some n) cs) s.conditions ∧
          Copied (s.table.lanes.map (·.number)) true true s t ∧
          { t with
            tally := s.tally, table := s.table, eval := s.eval, conditions := s.conditions
            retained := s.retained, handed := s.handed } =
            { s with out := { s.out with acks := s.out.acks + 1 } }))

/-! ## Messages of the sensor line -/

/-- An ENTER matched to an inbound entry, own lane first and then any other lane of the bay as misdirected
(R122, R123): the record of the entry is appended LASHING at U with the flags of its checks (R125, R127,
R128, R131), the entry leaves the inbound list, the sums move from its predicted to its actual place (R49),
the conditions are raised (R123, R127), a PLACED frame is handed in (R130), and the change is handed on
(R18, R78, R126). -/
def Obligations.EnterMatched : Prop :=
  ∀ (s : State) (lane : Byte) (m : Word16) (check : RxCheck),
    s.IsBay → s.node ≠ .withdrawn → s.RoleApart → s.table.Distinct →
      check = { word := checkWord ([1, lane] ++ bytes2 m) } →
      ∀ l, s.table.lane? lane.toNat = some l →
        l.placed.length < 24 → (m.toNat : Int) ≤ l.conf.length → 10 ≤ (m.toNat : Int) - l.used →
        ∀ x,
          (((s.table.inbound.find? fun e => decide (e.lane = l.number) &&
              decide ((e.arrival.length - (m.toNat - l.used)).natAbs ≤ s.conf.tolerance)).map
                fun e => (e, false)).or
            ((s.table.inbound.find? fun e => decide (e.lane ≠ l.number) &&
              decide ((e.arrival.length - (m.toNat - l.used)).natAbs ≤ s.conf.tolerance)).map
                fun e => (e, true))) = some x →
          ∃ t, exec (.enter lane m check) s = .next t ∧
            (let a := x.1.arrival;
            let free := decide (l.sockets < l.conf.sockets);
            let breach : List Flag :=
              (if (∃ r ∈ l.placed.getLast?, ∃ k ∈ r.rank, k < a.rank) ∧ a.overstow = false
                then [.overstow] else []) ++
              (if (∃ r ∈ l.placed.getLast?, separatedGroups r.hazard a.hazard.group? = true) ∨
                  (∃ k ∈ s.table.lanes, (k.number = l.number + 1 ∨ l.number = k.number + 1) ∧
                    ∃ r ∈ k.placed, separatedGroups r.hazard a.hazard.group? = true ∧
                      r.front - 30 < l.used + a.length ∧ l.used < r.front + r.length + 30)
                then [.segregation] else []) ++
              (if l.conf.axle < a.axle then [.axle] else []) ++
              (if l.conf.accepts a = true then [] else [.filter]) ++
              (if a.reefer = true ∧ free = false then [.noSocket] else []);
            let r : Record :=
              { booking := some a.booking, kind := a.kind.kind?, length := a.length
                weight := a.weight, axle := some a.axle, hazard := a.hazard.group?
                reefer := a.reefer, granted := a.reefer && free, rank := some a.rank
                front := l.used, status := .lashing
                flags := (if x.2 then [.misdirected] else []) ++
                  (if x.1.interrupted then [.interrupted] else []) ++ breach
                round := some x.1.round
                lashDue := some (s.now + 1000 *
                  (match s.conf.lashClass with
                    | 0 => 120
                    | 1 => 300
                    | 2 => 600
                    | _ => 1200)) };
            let d := s.dli.taking s.tally.callNumber
              (.placed
                { round := x.1.round, booking := BitVec.ofNat 40 a.booking
                  bay := BitVec.ofNat 8 s.conf.nodeNumber, lane := BitVec.ofNat 8 l.number
                  front := BitVec.ofInt 16 l.used });
            t.table =
              { s.table with
                lanes := s.table.lanes.map fun k =>
                  if k.number = lane.toNat then
                    { k with
                      placed := k.placed ++ [r], used := k.used + (a.length + s.conf.gap)
                      sockets := if r.granted then k.sockets + 1 else k.sockets }
                  else k
                inbound := s.table.inbound.erase x.1 } ∧
            SumsMoved (a.weight * l.conf.y - a.weight * s.table.armOf x.1.lane)
              (a.weight * max (-1200) (min 1200 (l.conf.xf - l.used - a.length / 2)) -
                a.weight * max (-1200) (min 1200 x.1.centre)) s t ∧
            t.conditions =
              ((if x.2 then [Code.misdirected] else []) ++
                (if breach = [] then [] else [Code.placementBreach])).foldl
                (fun cs k => raiseCondition s.now k (some l.number) cs) s.conditions ∧
            CongestionFollowed s t ∧ TallyCaused d s t ∧
            Copied [lane.toNat] true (s.buildsNow d) s t ∧
            { t with
              table := s.table, tally := s.tally, conditions := s.conditions, eval := s.eval
              dli := s.dli, retained := s.retained, handed := s.handed } = s)

/-- An ENTER that matches no inbound entry appends an UNIDENTIFIED record of the inferred length at the
unidentified weight and raises UNIDENTIFIED VEHICLE (R6, R18, R49, R124). -/
def Obligations.EnterUnexpected : Prop :=
  ∀ (s : State) (lane : Byte) (m : Word16) (check : RxCheck),
    s.IsBay → s.node ≠ .withdrawn → s.RoleApart → s.table.Distinct →
      check = { word := checkWord ([1, lane] ++ bytes2 m) } →
      ∀ l, s.table.lane? lane.toNat = some l →
        l.placed.length < 24 → (m.toNat : Int) ≤ l.conf.length → 10 ≤ (m.toNat : Int) - l.used →
        (∀ e ∈ s.table.inbound,
          s.conf.tolerance < (e.arrival.length - (m.toNat - l.used)).natAbs) →
          ∃ t, exec (.enter lane m check) s = .next t ∧
            (let w := s.conf.unidentifiedWeight;
            let r : Record :=
              { booking := none, kind := none, length := m.toNat - l.used, weight := w
                axle := none, hazard := none, reefer := false, granted := false, rank := none
                front := l.used, status := .unidentified, flags := [], round := none
                lashDue := none };
            t.table = { s.table with
              lanes := s.table.lanes.map fun k =>
                if k.number = lane.toNat then
                  { k with placed := k.placed ++ [r], used := m.toNat + s.conf.gap }
                else k } ∧
            SumsMoved (w * l.conf.y)
              (w * max (-1200) (min 1200 (l.conf.xf - l.used - (m.toNat - l.used) / 2))) s t ∧
            t.conditions =
              raiseCondition s.now .unidentifiedVehicle (some l.number) s.conditions ∧
            EvaluatorKept true s t ∧ TallyCaused s.dli s t ∧
            Copied [lane.toNat] false (s.buildsNow s.dli) s t ∧
            { t with
              table := s.table, tally := s.tally, conditions := s.conditions, eval := s.eval
              dli := s.dli, retained := s.retained, handed := s.handed } = s)

/-- An ENTER or LEAVE that the stowage does not allow: in LISTEN its lane leaves the replied set (R182); in
ACTIVE the bay passes to RECOVERY, gives up its evaluation and its CALLs, releases its reservations and
sends a SURVEY (R77, R172); in RECOVERY it is WITHDRAWN, with its condition and its NOTICE (R175). In
WITHDRAWN every ENTER and LEAVE whose check word agrees, whatever the stowage allows, is only counted, up to
255 (R176). -/
def Obligations.InconsistentEvent : Prop :=
  ∀ (s : State) (c : Instr) (n : Nat),
    s.IsBay →
      (s.RoleApart → s.Inconsistent n c → s.node = .listen → exec c s = .next
        { s.unmoved with sensor := { s.sensor with
          replied := s.sensor.replied.filter fun k => decide (k ≠ n) } }) ∧
      (s.RoleApart → s.Inconsistent n c → s.node = .active →
        ∃ t, exec c s = .next t ∧ t.node = .recovery ∧
          t.eval = { s.eval with inFlight := none, callQueue := [] } ∧
          t.table = { s.table with reservations := [] } ∧
          t.sensor = (if s.sensor.surveyDue = none then
            { s.sensor with surveyDue := some (s.now + 20000), replied := [] } else s.sensor) ∧
          t.out = (if s.sensor.surveyDue = none then
            { s.out with surveys := s.out.surveys + 1 } else s.out) ∧
          (let d := s.dli.offersOut (s.table.reservations.map (·.round));
          TallyCaused d s t ∧ SumsMoved 0 0 s t ∧ Copied [] false (s.buildsNow d) s t) ∧
          { t with
            node := s.node, eval := s.eval, table := s.table, sensor := s.sensor, out := s.out
            tally := s.tally, dli := s.dli, retained := s.retained, handed := s.handed } = s) ∧
      (s.RoleApart → s.Inconsistent n c → s.node = .recovery →
        ∃ t, exec c s = .next t ∧ t.node = .withdrawn ∧
          t.sensor = { s.sensor with surveyDue := none } ∧
          t.conditions = raiseCondition s.now .withdrawn none s.conditions ∧
          (let d := s.dli.taking s.tally.callNumber .noticeWithdrawn;
          TallyCaused d s t ∧ SumsMoved 0 0 s t ∧ Copied [] false (s.buildsNow d) s t) ∧
          { t with
            node := s.node, sensor := s.sensor, conditions := s.conditions, tally := s.tally
            dli := s.dli, retained := s.retained, handed := s.handed } = s) ∧
      (isVehicleMessage c = true → s.node = .withdrawn → exec c s = .next
        { s.unmoved with sensor := { s.sensor with
          withheld := if s.sensor.withheld < 255 then s.sensor.withheld + 1
            else s.sensor.withheld } })

/-- A LEAVE removes the physical tail of its lane with its length, socket and moments, and raises EARLY
REMOVAL for an UNIDENTIFIED record or one of a rank other than 0 (R9, R10, R18, R49, R134, R135). The
lane is then checked against the measured length: within the tolerance that is all; beyond it the LEAVE is an
inconsistency, and the removal stands: in LISTEN the lane leaves the replied set, an ACTIVE bay passes to
RECOVERY, one in RECOVERY is WITHDRAWN (R136, R172, R175, R182). Either way the evaluation in flight is
restarted if it still runs, a TALLY is caused and the lane copy written, once for the event (R18, R72). -/
def Obligations.LeaveOfTheTail : Prop :=
  ∀ (s : State) (lane : Byte) (m : Word16) (check : RxCheck),
    s.IsBay → s.node ≠ .withdrawn → s.RoleApart → s.table.Distinct →
      check = { word := checkWord ([2, lane] ++ bytes2 m) } →
      ∀ l, s.table.lane? lane.toNat = some l → ∀ r, l.placed.getLast? = some r →
        ∃ t, exec (.leave lane m check) s = .next t ∧
          (let after := l.used - (r.length + s.conf.gap);
          let expected := if l.placed.length = 1 then 0 else after - s.conf.gap;
          let early := decide (r.status = .unidentified) || r.rank.any fun k => decide (k ≠ 0);
          let v : State :=
            { s with
              table := { s.table with
                lanes := s.table.lanes.map fun k =>
                  if k.number = lane.toNat then
                    { k with
                      placed := k.placed.dropLast, used := k.used - (r.length + s.conf.gap)
                      sockets := if r.granted then k.sockets - 1 else k.sockets }
                  else k }
              tally := { s.tally with
                ownT := s.tally.ownT - r.weight * l.conf.y
                ownL := s.tally.ownL -
                  r.weight * max (-1200) (min 1200 (l.conf.xf - r.front - r.length / 2)) }
              conditions := if early = true then
                raiseCondition s.now .earlyRemoval (some l.number) s.conditions else s.conditions };
          EventEnds true true [lane.toNat] s
            (if ((m.toNat : Int) - expected).natAbs ≤ s.conf.tolerance then v
              else v.foundInconsistent lane.toNat) t)

/-- FAULT on an OPEN or CLOSED lane sets its suspect mark, and changes nothing on a lane in FAULT; CLEAR
removes the mark, and returns a lane in FAULT to its remembered state and clears LANE FAULT; both in every
node state, and neither for a lane number with no lane record (R2, R3, R18, R171). -/
def Obligations.LaneFaultAndClear : Prop :=
  ∀ (s : State) (lane : Byte) (check : RxCheck),
    s.IsBay → s.RoleApart → s.table.Distinct →
      (check = { word := checkWord [3, lane] } →
        exec (.sensorFault lane check) s = .next
          { s.unmoved with table := { s.table with
            lanes := s.table.lanes.map fun k =>
              if k.number = lane.toNat ∧ (k.stored = .opened ∨ k.stored = .closed) then
                { k with suspect := true }
              else k } }) ∧
      (check = { word := checkWord [4, lane] } →
        (∀ l, s.table.lane? lane.toNat = some l → ∀ st,
          (match l.stored with
            | .fault .opened => some LaneState.opened
            | .fault .closed => some LaneState.closed
            | .opened => none
            | .closed => none) = some st →
          ∃ t, exec (.sensorClear lane check) s = .next t ∧
            t.table = { s.table with
              lanes := s.table.lanes.map fun k =>
                if k.number = lane.toNat then { k with suspect := false, stored := st } else k } ∧
            t.conditions = s.conditions.eraseP (fun c =>
              decide (c.code = .laneFault) && decide (c.lane = some lane.toNat)) ∧
            TallyCaused s.dli s t ∧ SumsMoved 0 0 s t ∧
            Copied [lane.toNat] false (s.buildsNow s.dli) s t ∧
            { t with
              table := s.table, conditions := s.conditions, tally := s.tally, dli := s.dli
              retained := s.retained, handed := s.handed } = s) ∧
        ((∀ l, s.table.lane? lane.toNat = some l → l.stored = .opened ∨ l.stored = .closed) →
          exec (.sensorClear lane check) s = .next
            { s.unmoved with table := { s.table with
              lanes := s.table.lanes.map fun k =>
                if k.number = lane.toNat then { k with suspect := false } else k } }))

/-- LEVEL in a survey (R173, R174). With m above the lane length it cannot be reconciled and changes nothing in
the lane. Otherwise, d being the measured length less the expected one, records are removed from the tail while
d < −T, each with EARLY REMOVAL, so that j records are left; then, where d > T and m − U is 10 dm or more, an
UNIDENTIFIED record of m − U is appended with its condition, or, where 24 stand there, the LEVEL cannot be
reconciled and the removals stand. A reconciled lane has replied; one that cannot be reconciled is an
inconsistency, by the node state (R172, R175, R182). Whatever was added or removed is handed on once (R18).
Outside a survey, in WITHDRAWN, and for a lane number with no lane record a LEVEL is ignored (R173, R176). -/
def Obligations.LevelReconciles : Prop :=
  ∀ (s : State) (lane : Byte) (m : Word16) (check : RxCheck),
    s.IsBay → s.RoleApart → s.table.Distinct → check = { word := checkWord ([5, lane] ++ bytes2 m) } →
      (s.sensor.surveyDue = none ∨ s.node = .withdrawn ∨ s.table.lane? lane.toNat = none →
        exec (.level lane m check) s = .next s.unmoved) ∧
      (s.sensor.surveyDue ≠ none → s.node ≠ .withdrawn →
        ∀ l, s.table.lane? lane.toNat = some l →
        (l.conf.length < (m.toNat : Int) →
          ∃ t, exec (.level lane m check) s = .next t ∧
            EventEnds false (decide (s.node ≠ .listen)) [] s (s.foundInconsistent lane.toNat) t) ∧
        ((m.toNat : Int) ≤ l.conf.length → ∀ j, j ≤ l.placed.length →
          (let used (i : Nat) : Int := l.used - extentSum s.conf.gap (l.placed.drop i);
          let d (i : Nat) : Int :=
            m.toNat - (if l.placed.take i = [] then 0 else used i - s.conf.gap);
          (∀ i, i ≤ l.placed.length → j < i → d i < -s.conf.tolerance) → -s.conf.tolerance ≤ d j →
            (let gone := l.placed.drop j;
            let room := m.toNat - used j;
            let wanting := decide (s.conf.tolerance < d j) && decide (10 ≤ room);
            let added := wanting && decide (j < 24);
            let stuck := wanting && !added;
            let changed := !gone.isEmpty || added;
            let new := unidentified s.conf.unidentifiedWeight room (used j);
            let v : State :=
              { s with
                table := { s.table with
                  lanes := s.table.lanes.map fun k =>
                    if k.number = lane.toNat then
                      { k with
                        placed := l.placed.take j ++ (if added = true then [new] else [])
                        used := if added = true then m.toNat + s.conf.gap else used j
                        sockets := l.sockets - grantedCount gone }
                    else k }
                tally := { s.tally with
                  ownT := s.tally.ownT - (gone.map (Record.mT l.conf)).sum +
                    (if added = true then s.conf.unidentifiedWeight * l.conf.y else 0)
                  ownL := s.tally.ownL - (gone.map (Record.mL l.conf)).sum +
                    (if added = true then s.conf.unidentifiedWeight *
                      max (-1200) (min 1200 (l.conf.xf - used j - room / 2)) else 0) }
                conditions :=
                  (gone.map (fun _ => Code.earlyRemoval) ++
                    (if added = true then [Code.unidentifiedVehicle] else [])).foldl
                    (fun cs k => raiseCondition s.now k (some l.number) cs) s.conditions };
            ∃ t, exec (.level lane m check) s = .next t ∧
              EventEnds changed (changed || (stuck && decide (s.node ≠ .listen)))
                (if changed = true then [lane.toNat] else []) s
                (if stuck = true then v.foundInconsistent lane.toNat
                  else { v with sensor := { s.sensor with
                    replied := if lane.toNat ∈ s.sensor.replied then s.sensor.replied
                      else s.sensor.replied ++ [lane.toNat] } }) t))))

/-- The close of a survey, by END or at the expiry of its timer (R173, R175, R183): in RECOVERY END returns
the bay to ACTIVE, each lane that has not replied suspect, and the expiry makes it WITHDRAWN; in LISTEN
either lets a bay whose listen interval is over pass to ACTIVE. END outside a survey and in WITHDRAWN is
ignored (R176). The end of the listen interval (R183): a ramp passes to ACTIVE and R82 looks; a bay whose
survey has closed passes to ACTIVE with each lane that has not replied suspect, and one whose survey is
outstanding waits for it. -/
def Obligations.SurveyAndListenEnd : Prop :=
  (∀ (s : State) (c : Instr) (end_ : Bool),
     s.IsBay → s.RoleApart → c = (if end_ then .surveyEnd { word := checkWord [6] } else .surveyTimerExpiry) →
       (∀ due, s.sensor.surveyDue = some due →
         (let now := if end_ then s.now else max s.now due;
         let u : State := { s with now := now, sensor := { s.sensor with surveyDue := none } };
         ((s.node = .recovery ∧ end_ = true) ∨ (s.node = .listen ∧ s.listenDue = none) →
           ∃ t, exec c s = .next t ∧ t.node = .active ∧
             t.table = { s.table with
               lanes := s.table.lanes.map fun k =>
                 if k.number ∈ s.sensor.replied then k else { k with suspect := true } } ∧
             TallyCaused u.dli u t ∧ SumsMoved 0 0 u t ∧ Copied [] false (u.buildsNow u.dli) u t ∧
             { t with
               node := u.node, table := u.table, tally := u.tally, dli := u.dli
               retained := u.retained, handed := u.handed } = u) ∧
         (s.node = .recovery → end_ = false →
           ∃ t, exec c s = .next t ∧ t.node = .withdrawn ∧
             t.conditions = raiseCondition now .withdrawn none s.conditions ∧
             (let d := u.dli.taking u.tally.callNumber .noticeWithdrawn;
             TallyCaused d u t ∧ SumsMoved 0 0 u t ∧ Copied [] false (u.buildsNow d) u t) ∧
             { t with
               node := u.node, conditions := u.conditions, tally := u.tally, dli := u.dli
               retained := u.retained, handed := u.handed } = u) ∧
         ((s.node = .listen ∧ s.listenDue ≠ none) ∨ s.node = .active →
           exec c s = .next { u with handed := HandedOn.clear }))) ∧
       (s.sensor.surveyDue = none ∨ (s.node = .withdrawn ∧ end_ = true) →
         exec c s = .next s.unmoved)) ∧
  (∀ (s : State),
     s.Configured → s.RoleApart →
       (s.node = .listen → ∀ due, s.listenDue = some due →
         (let u : State := { s with now := max s.now due, listenDue := none };
         (s.conf.role = .ramp →
           ∃ t, exec .listenIntervalEnd s = .next t ∧ Looked false { u with node := .active } t) ∧
         (s.conf.role = .bay → s.sensor.surveyDue = none →
           ∃ t, exec .listenIntervalEnd s = .next t ∧ t.node = .active ∧
             t.table = { s.table with
               lanes := s.table.lanes.map fun k =>
                 if k.number ∈ s.sensor.replied then k else { k with suspect := true } } ∧
             TallyCaused u.dli u t ∧ SumsMoved 0 0 u t ∧ Copied [] false (u.buildsNow u.dli) u t ∧
             { t with
               node := u.node, table := u.table, tally := u.tally, dli := u.dli
               retained := u.retained, handed := u.handed } = u) ∧
         (s.conf.role = .bay → s.sensor.surveyDue ≠ none →
           exec .listenIntervalEnd s = .next { u with handed := HandedOn.clear }))) ∧
       (s.listenDue = none → exec .listenIntervalEnd s = .next s.unmoved))

/-! ## Events of the deck line -/

/-- TRANSMIT_START: the OFFERs at the head whose reservation is no longer held leave the queue (R154); the first
frame left is carried, unless another node starts a frame of a higher class, or of its class and from a
lower source, in the same moment (R155). While an attempt is on the line nothing is started. -/
def Obligations.TransmitStarts : Prop :=
  ∀ (s : State) (rivals : List Rival),
    s.Configured →
      (s.dli.onLine ≠ none → exec (.transmitStart rivals) s = .next s.unmoved) ∧
      (s.dli.onLine = none →
        (let dead (f : QFrame) : Bool :=
          match f.payload with
          | .offer p => !(s.table.reservations.any fun r => decide (r.round = p.round))
          | _ => false;
        let q := s.dli.queue.dropWhile dead;
        let source : Nat :=
          match s.conf.role with
          | .bay => s.conf.nodeNumber % 256
          | .ramp => (60 + s.conf.rampId) % 256;
        match q with
        | [] => exec (.transmitStart rivals) s =
            .next { s.unmoved with dli := { s.dli with queue := [] } }
        | f :: _ =>
          ((∃ r ∈ rivals, r.cls < f.payload.cls ∨ (r.cls = f.payload.cls ∧ r.source < source)) →
            exec (.transmitStart rivals) s =
              .next { s.unmoved with dli := { s.dli with queue := q } }) ∧
          ((∀ r ∈ rivals, f.payload.cls < r.cls ∨ (r.cls = f.payload.cls ∧ source ≤ r.source)) →
            exec (.transmitStart rivals) s =
              .next
                { s.unmoved with
                  dli := { s.dli with
                    queue := q
                    onLine := some
                      { age := f.age
                        spoiled := rivals.any fun r =>
                          decide (r.cls = f.payload.cls ∧ r.source = source) } }
                  out := { s.out with
                    deck := s.out.deck ++
                      [{ source := BitVec.ofNat 8 source, callNumber := f.callNumber
                         payload := f.payload }] } })))

/-- The end of an attempt that is acknowledged: the frame leaves the queue and the failures are counted from
0 again; the end of a ramp's own CALL starts the window timer of its open round (R83, R157); and in SILENT
the line state returns to NORMAL, LINE SILENT is cleared, and a bay has cause of a TALLY while a ramp looks
for a callable entry (R82, R160). -/
def Obligations.AttemptAcknowledged : Prop :=
  ∀ (s : State),
    s.Configured → s.RoleApart → ∀ o, s.dli.onLine = some o → o.spoiled = false →
      ∀ f, s.dli.queue.find? (fun f => decide (f.age = o.age)) = some f →
        (let d : Dli := { s.dli with
          onLine := none, failures := 0, queue := s.dli.queue.filter fun g => decide (g.age ≠ f.age) };
        let v : State := { s with
          dli := d
          rounds := { s.rounds with
            openRound := s.rounds.openRound.map fun r =>
              if f.payload.isCallOf r.round = true ∧ f.leaving = false ∧ r.windowDue = none then
                { r with windowDue := some (s.now + r.window) }
              else r } };
        let w : State := { v with
          dli := { d with line := .normal, probeTime := none }
          conditions := s.conditions.eraseP fun c =>
            decide (c.code = .lineSilent) && decide (c.lane = none) };
        (s.dli.line = .normal →
          exec (.attemptEnd true) s = .next { v with handed := HandedOn.clear }) ∧
        (s.dli.line = .silent → s.conf.role = .ramp →
          ∃ t, exec (.attemptEnd true) s = .next t ∧ Looked false w t) ∧
        (s.dli.line = .silent → s.conf.role = .bay →
          ∃ t, exec (.attemptEnd true) s = .next t ∧ TallyCaused w.dli w t ∧ SumsMoved 0 0 w t ∧
            Copied [] false (w.buildsNow w.dli) w t ∧
            { t with
              tally := w.tally, dli := w.dli, retained := w.retained, handed := w.handed } = w))

/-- The end of an attempt that is not acknowledged (R153, R154, R157): a frame to be removed goes, any other
below its 8th attempt stays with one attempt more, and at its 8th attempt it is dropped: the failures are
counted, below the 16th the line stays NORMAL, the drop of a CALL starts the window timer as its end would
(R83), and the drop of an AWARD is the loss that cancels its dispatched entry UNSENT (R87, R110). -/
def Obligations.AttemptFails : Prop :=
  ∀ (s : State) (acknowledged : Bool),
    s.Configured → s.RoleApart → ∀ o, s.dli.onLine = some o →
      (acknowledged = false ∨ o.spoiled = true) →
      ∀ f, s.dli.queue.find? (fun f => decide (f.age = o.age)) = some f →
        (let gone : Dli := { s.dli with
          onLine := none, queue := s.dli.queue.filter fun g => decide (g.age ≠ f.age) };
        (f.leaving = true → exec (.attemptEnd acknowledged) s =
          .next { s.unmoved with dli := gone }) ∧
        (f.leaving = false → f.attempts + 1 < 8 → exec (.attemptEnd acknowledged) s =
          .next { s.unmoved with dli := { s.dli with
            onLine := none
            queue := s.dli.queue.map fun g =>
              if g.age = f.age then { g with attempts := g.attempts + 1 } else g } }) ∧
        (f.leaving = false → 8 ≤ f.attempts + 1 →
          (s.dli.line = .silent ∨ s.dli.failures + 1 < 16) →
          (let v : State := { s with dli := { gone with
            failures := if s.dli.line = .silent then s.dli.failures else s.dli.failures + 1 } };
          let unsent : Option (AwardPayload × DispatchedEntry) :=
            match f.payload with
            | .award p => (s.rounds.dispatched.find? fun d =>
                decide (d.round = p.round) && decide (d.bay = p.bay)).map fun d => (p, d)
            | _ => none;
          (unsent = none → exec (.attemptEnd acknowledged) s =
            .next { v with
              handed := HandedOn.clear
              rounds := { s.rounds with
                openRound := s.rounds.openRound.map fun r =>
                  if f.payload.isCallOf r.round = true ∧ r.windowDue = none then
                    { r with windowDue := some (s.now + r.window) }
                  else r } }) ∧
          (∀ x, unsent = some x →
            (let u := v.disposed x.2.arrival.booking (.cancelled .unsent);
            let u : State := { u with rounds := { u.rounds with
              dispatched := s.rounds.dispatched.eraseP fun d =>
                decide (d.round = x.1.round) && decide (d.bay = x.1.bay) } };
            (s.rounds.waiting.length < 16 →
              ∃ t, exec (.attemptEnd acknowledged) s = .next t ∧
                Looked false (u.waitingNow
                  ({ arrival := x.2.arrival, attempts := x.2.attempts, notBefore := none
                     called := false } :: s.rounds.waiting)) t) ∧
            (16 ≤ s.rounds.waiting.length →
              exec (.attemptEnd acknowledged) s = .next
                { u.disposed x.2.arrival.booking (.shutOut .queueFull) with
                  handed := HandedOn.clear }))))))

/-- The 16th drop in a row turns the line state SILENT (R158, R159): the transmit queue is emptied, the probe
time set 30 s ahead, LINE SILENT raised; a bay releases every reservation and gives up its evaluation and
its CALLs (R77). At a ramp each CALL and AWARD among the discarded frames, and then the frame dropped, is
reported as a drop: a CALL starts the window timer of its open round (R83), and an AWARD whose entry is still
dispatched cancels it UNSENT, back to the head of the waiting queue or SHUT OUT (R87, R110, R157). That the discarded
frames are reported in the order of the queue, and the frame dropped after them, is the model's reading (log
entry 10). -/
def Obligations.LineFallsSilent : Prop :=
  ∀ (s : State),
    s.Configured → s.RoleApart → s.dli.line = .normal → s.dli.failures = 15 →
      ∀ o, s.dli.onLine = some o →
      ∀ f, s.dli.queue.find? (fun f => decide (f.age = o.age)) = some f →
        f.leaving = false → f.attempts = 7 →
        (let d : Dli := { s.dli with
          line := .silent, queue := [], failures := 16, onLine := none
          probeTime := some (s.now + 30000) };
        let cs := raiseCondition s.now .lineSilent none s.conditions;
        (s.conf.role = .bay →
          exec (.attemptEnd false) s = .next { s.unmoved with
            dli := d, conditions := cs, table := { s.table with reservations := [] }
            eval := { s.eval with inFlight := none, callQueue := [] } }) ∧
        (s.conf.role = .ramp →
          exec (.attemptEnd false) s = .next
            ((((s.dli.queue.filter fun g => decide (g.age ≠ f.age)) ++ [f]).flatMap fun g =>
              g.payload.dropReport).foldl State.dropReported
                { s.unmoved with dli := d, conditions := cs })))

/-- The TALLYs of a bay's own time: at the end of the period (R140), at the end of the spacing while a change
is pending (R140), and as a probe in SILENT, in place of a probe still queued, the next probe time 30 s
on (R160). Each takes the next sequence and the values as they stand, and the node copy is written. A
ramp's probe is a PORTCALL with the present call number. -/
def Obligations.TimedTallies : Prop :=
  ∀ (s : State) (c : Instr),
    s.Configured → s.RoleApart →
      (let probing := decide (c = .probeTime);
      let due : Option Nat :=
        match c with
        | .tallyPeriod =>
          if s.dli.line = .normal then s.tally.lastBuild.map (· + 5000) else none
        | .tallySpacingEnd =>
          if s.dli.line = .normal ∧ s.tally.pendingChange = true then
            some ((s.tally.lastBuild.map (· + 500)).getD s.now)
          else none
        | .probeTime => if s.dli.line = .silent then s.dli.probeTime else none
        | _ => none;
      c = .tallyPeriod ∨ c = .tallySpacingEnd ∨ c = .probeTime →
      (due = none ∨ (probing = false ∧ s.conf.role = .ramp) → exec c s = .next s.unmoved) ∧
      (∀ at_, due = some at_ →
        (let d : Dli := if probing = true then
          { s.dli with
            probeTime := some (at_ + 30000)
            queue := s.dli.queue.filterMap fun f =>
              if f.IsProbe then
                (if s.dli.carries f = true then some { f with leaving := true } else none)
              else some f }
          else s.dli;
        let put (p : Payload) (cn : Byte) : Dli := { d with
          nextAge := d.nextAge + 1
          queue := enqueue
            { payload := p, callNumber := cn, age := d.nextAge, attempts := 0, leaving := false }
            d.queue };
        (s.conf.role = .bay →
          ∃ t, exec c s = .next t ∧ t.now = max s.now at_ ∧
            t.tally = { s.tally with
              seq := s.tally.seq + 1, lastBuild := some t.now, pendingChange := false } ∧
            t.dli = (if probing = true then
              put (.tally (t.tallyPayload t.tally.seq)) t.tally.callNumber
              else (d.handInNormal t.tally.callNumber (.tally (t.tallyPayload t.tally.seq))).1) ∧
            Copied [] false true s t ∧
            { t with
              now := s.now, tally := s.tally, dli := s.dli, retained := s.retained
              handed := s.handed } = s) ∧
        (s.conf.role = .ramp → probing = true →
          exec c s = .next { s.unmoved with
            now := max s.now at_
            dli := put (.portcall s.tally.callNumber) s.tally.callNumber }))))

/-! ## The evaluation in flight and reservations -/

/-- The completion of an evaluation before its deadline has passed (R73), whose chosen lane carries no suspect
mark, with room in the reservation table: the reservation holds the round, the lane, the arrival and the place
chosen, and expires the award grace after the offer window; the OFFER with its score is handed in, and the
next CALL is taken (R12, R64, R75, R76). At the deadline itself a completion still counts, the model's choice
(log entry 2). -/
def Obligations.EvaluationReserves : Prop :=
  ∀ (s : State),
    s.IsBay → s.RoleApart → ∀ v, s.eval.inFlight = some v →
      s.now ≤ v.call.deadline → ∀ x, chooseLane s.conf v.snapshot v.call.arrival = some x →
        s.table.reservations.length < 4 → s.table.isSuspect x.lane = false →
          ∃ t, exec .evaluationCompletion s = .next t ∧
            t.table = { s.table with
              reservations := s.table.reservations ++
                [{ round := v.call.round, lane := x.lane, arrival := v.call.arrival
                   front := x.front, centre := x.centre
                   expiry := v.call.receipt + v.call.window + s.conf.awardGrace }] } ∧
            t.dli = s.dli.taking s.tally.callNumber
              (.offer
                { round := v.call.round, bay := BitVec.ofNat 8 s.conf.nodeNumber
                  deck := BitVec.ofNat 8 s.conf.deck, lane := BitVec.ofNat 8 x.lane
                  score := BitVec.ofInt 16 x.score }) ∧
            MovedOn s t ∧
            { t with table := s.table, dli := s.dli, eval := s.eval, handed := s.handed } = s

/-- The other endings of an evaluation (R73, R74, R75): with no eligible lane, with a full reservation table
and at the expiry of its CALL's deadline it ends without a trace and the next CALL is taken, and so it does
where the completion comes after that deadline; the expiry of another CALL's deadline has no effect; a chosen
lane that carries the suspect mark turns to FAULT instead, with LANE FAULT, and the evaluation is restarted.
The expiry of a reservation releases it with its OFFER and restarts an evaluation in flight (R18, R89, R90,
R97). With each expiry the clock has reached its time, the model's choice (log entry 1). -/
def Obligations.EvaluationsAndReservationsEnd : Prop :=
  (∀ (s : State) (r : RoundId),
     s.IsBay → s.RoleApart →
       (∀ v, s.eval.inFlight = some v →
         (chooseLane s.conf v.snapshot v.call.arrival = none ∨
             4 ≤ s.table.reservations.length ∨ v.call.deadline < s.now →
           ∃ t, exec .evaluationCompletion s = .next t ∧ MovedOn s t ∧
             { t with eval := s.eval, handed := s.handed } = s) ∧
         (r = v.call.round →
           ∃ t, exec (.deadlineExpiry r) s = .next t ∧ t.now = max s.now v.call.deadline ∧
             MovedOn s t ∧ { t with now := s.now, eval := s.eval, handed := s.handed } = s) ∧
         (r ≠ v.call.round → exec (.deadlineExpiry r) s = .next s.unmoved) ∧
         (s.now ≤ v.call.deadline → ∀ x, chooseLane s.conf v.snapshot v.call.arrival = some x →
           s.table.reservations.length < 4 → s.table.isSuspect x.lane = true →
             ∃ t, exec .evaluationCompletion s = .next t ∧
               t.table = { s.table with
                 lanes := s.table.lanes.map fun k =>
                   if k.number = x.lane then
                     { k with
                       suspect := false
                       stored := .fault (match k.stored with
                         | .opened => .opened
                         | .closed => .closed
                         | .fault r => r) }
                   else k } ∧
               t.conditions = raiseCondition s.now .laneFault (some x.lane) s.conditions ∧
               EvaluatorKept true s t ∧ TallyCaused s.dli s t ∧ SumsMoved 0 0 s t ∧
               Copied [x.lane] false (s.buildsNow s.dli) s t ∧
               { t with
                 table := s.table, conditions := s.conditions, eval := s.eval, tally := s.tally
                 dli := s.dli, retained := s.retained, handed := s.handed } = s)) ∧
       (s.eval.inFlight = none → exec .evaluationCompletion s = .next s.unmoved ∧
         exec (.deadlineExpiry r) s = .next s.unmoved)) ∧
  (∀ (s : State) (r : RoundId),
     s.IsBay →
       (∀ x, s.table.reservations.find? (fun x => decide (x.round = r)) = some x →
         ∃ t, exec (.reservationExpiry r) s = .next t ∧ t.now = max s.now x.expiry ∧
           t.table = { s.table with
             reservations := s.table.reservations.filter fun x => decide (x.round ≠ r) } ∧
           t.dli = s.dli.offersOut [r] ∧ EvaluatorKept true s t ∧
           { t with
             now := s.now, table := s.table, dli := s.dli, eval := s.eval
             handed := s.handed } = s) ∧
       ((∀ x ∈ s.table.reservations, x.round ≠ r) →
         exec (.reservationExpiry r) s = .next s.unmoved))

/-! ## Window, travel -/

/-- The expiry of the window timer with an offer to award, the line NORMAL: the AWARD goes to the best offer,
the entry moves to the dispatched list, in place of its oldest when 16 stand there, and is reported AWARDED
(R85, R109, R112); an AWARD refused at a full transmit queue, or one evicted there, is then the loss of R87:
its entry is CANCELLED UNSENT and returns to the head of the waiting queue, or is SHUT OUT (R110, R152). With
no offer, or in SILENT: below the attempt limit the entry waits for another round with one attempt more and
its not-before time the recall delay ahead, and at the limit it is removed and SHUT OUT (R86, R108). The round
closes, a held advance is acted on, and R82 looks (R82, R113, R115). With no timer running nothing expires
(R83). R152 gives the time of the loss for an AWARD refused as it is handed in, after the last step of R85; that
an older AWARD evicted by the new one is reported lost at that time too is the model's reading (log entry 10).
The clock at the timer's time, from which the not-before time counts, is the model's choice (log entry 1). -/
def Obligations.WindowEnds : Prop :=
  (∀ (s : State),
     s.IsRamp → s.dli.line = .normal →
       ∀ o, s.rounds.openRound = some o → ∀ due, o.windowDue = some due →
       ∀ x, bestOffer o.offers = some x → ∀ w, s.rounds.waiting.find? (·.called) = some w →
         ∃ t, exec .windowTimerExpiry s = .next t ∧
           (let entry : DispatchedEntry :=
             { round := o.round, arrival := w.arrival, attempts := w.attempts, deck := x.deck
               bay := x.bay, lane := x.lane };
           let v : State :=
             (s.disposed w.arrival.booking (.awarded x.deck x.bay x.lane w.arrival.clamped)).waitingNow
               (s.rounds.waiting.eraseP (·.called));
           let p : Payload := .award { round := o.round, bay := x.bay, lane := x.lane };
           let v : State := { v with
             now := max s.now due
             dli := s.dli.taking s.tally.callNumber p
             rounds := { v.rounds with
               openRound := none
               dispatched := (if 16 ≤ s.rounds.dispatched.length then s.rounds.dispatched.tail
                 else s.rounds.dispatched) ++ [entry] } };
           Looked s.rounds.heldAdvance
             ((s.dli.dropsOf s.tally.callNumber p).foldl State.dropReported v).heldActed t)) ∧
  (∀ (s : State),
     s.IsRamp →
       (∀ o, s.rounds.openRound = some o → ∀ due, o.windowDue = some due →
         (o.offers = [] ∨ s.dli.line = .silent) →
         ∀ w, s.rounds.waiting.find? (·.called) = some w →
           ∃ t, exec .windowTimerExpiry s = .next t ∧
             (let now := max s.now due;
             let v : State :=
               if w.attempts + 1 < s.conf.attemptLimit then
                 { s with rounds := { s.rounds with
                   waiting := s.rounds.waiting.map fun k =>
                     if k.called then
                       { k with
                         attempts := k.attempts + 1
                         notBefore := some (now + 1000 * s.conf.recallDelay), called := false }
                     else k } }
               else
                 (s.disposed w.arrival.booking (.shutOut .noOffer)).waitingNow
                   (s.rounds.waiting.eraseP (·.called));
             let v : State := { v with now := now, rounds := { v.rounds with openRound := none } };
             Looked s.rounds.heldAdvance v.heldActed t)) ∧
       ((∀ o ∈ s.rounds.openRound, o.windowDue = none) →
         exec .windowTimerExpiry s = .next s.unmoved))

/-- The expiry of an entry's travel timer, its four steps in LISTEN, ACTIVE and RECOVERY: the entry leaves the
inbound list and the own sums, NOTICE MISSING is handed in, INBOUND MISSING raised, and the change handed
on (R18, R49, R78, R119); in WITHDRAWN the entry stays, its timer expired and not acted on (R118), which the
model shows by a timer made absent (log entry 31). The clock at the timer's time is the model's choice (log
entry 1). -/
def Obligations.TravelTimerExpires : Prop :=
  ∀ (s : State) (b : Nat),
    s.IsBay → s.RoleApart →
      (∀ e, s.table.inbound.find? (Inbound.travels b) = some e → ∀ due, e.travelDue = some due →
        (s.node ≠ .withdrawn →
          ∃ t, exec (.travelTimerExpiry b) s = .next t ∧ t.now = max s.now due ∧
            t.table = { s.table with inbound := s.table.inbound.erase e } ∧
            (let d := s.dli.taking s.tally.callNumber
              (.noticeMissing { round := e.round, booking := BitVec.ofNat 40 e.arrival.booking });
            let u : State := { s with now := t.now };
            SumsMoved (-(e.arrival.weight * s.table.armOf e.lane))
              (-(e.arrival.weight * max (-1200) (min 1200 e.centre))) s t ∧
            t.conditions = raiseCondition t.now .inboundMissing (some e.lane) s.conditions ∧
            CongestionFollowed s t ∧ TallyCaused d u t ∧ Copied [] true (u.buildsNow d) s t) ∧
            { t with
              now := s.now, table := s.table, tally := s.tally, conditions := s.conditions
              eval := s.eval, dli := s.dli, retained := s.retained, handed := s.handed } = s) ∧
        (s.node = .withdrawn →
          exec (.travelTimerExpiry b) s = .next
            { s.unmoved with
              now := max s.now due
              table := { s.table with
                inbound := s.table.inbound.map fun k =>
                  if k = e then { k with travelDue := none } else k } })) ∧
      ((∀ e ∈ s.table.inbound, e.arrival.booking = b → e.travelDue = none) →
        exec (.travelTimerExpiry b) s = .next s.unmoved)
end

