-- ==== Sys2Proof/Laws/Lanes.lean ====
section
/-! SUPPORT. Lanes, placed lists and the parts of the retained copy: what a lane update, an appended record,
a removed tail and a copy write do. -/

namespace Sys2Proof.Machine

open Sys2Proof

/-! ## Lanes of the table -/

/-- The lane found for a number is a lane of the table with that number (R1). -/
theorem LaneTable.lane?_some {t : LaneTable} {n : Nat} {l : Lane} (h : t.lane? n = some l) :
    l ∈ t.lanes ∧ l.number = n :=
  ⟨List.mem_of_find?_eq_some h, by simpa using List.find?_some h⟩

/-- An update that keeps a lane's number keeps the numbers of the table. -/
theorem LaneTable.updateLane_numbers {n : Nat} {f : Lane → Lane} (hf : ∀ l, (f l).number = l.number)
    (t : LaneTable) : (t.updateLane n f).lanes.map (·.number) = t.lanes.map (·.number) := by
  unfold LaneTable.updateLane
  rw [List.map_map]
  apply List.map_congr_left
  intro l _
  simp only [Function.comp_apply]
  split
  · exact hf l
  · rfl

/-- A lane update leaves the reservations and the inbound list. -/
theorem LaneTable.updateLane_frame (n : Nat) (f : Lane → Lane) (t : LaneTable) :
    { t.updateLane n f with lanes := t.lanes } = t := rfl

/-- The lane of the updated number is the update of the lane found before (R1). -/
theorem LaneTable.lane?_updateLane {n : Nat} {f : Lane → Lane} (hf : ∀ l, (f l).number = l.number)
    (t : LaneTable) (m : Nat) :
    (t.updateLane n f).lane? m = (t.lane? m).map fun l => if l.number = n then f l else l := by
  unfold LaneTable.updateLane LaneTable.lane?
  rw [List.find?_map]
  congr 1
  apply List.find?_congr
  intro l _
  simp only [Function.comp_apply]
  split
  · rw [hf l]
  · rfl

/-! ## Placed lists -/

@[simp] theorem extentSum_nil (gap : Int) : extentSum gap [] = 0 := rfl

@[simp] theorem extentSum_cons (gap : Int) (r : Record) (rs : List Record) :
    extentSum gap (r :: rs) = r.extent gap + extentSum gap rs := rfl

@[simp] theorem extentSum_append (gap : Int) (rs qs : List Record) :
    extentSum gap (rs ++ qs) = extentSum gap rs + extentSum gap qs := by
  induction rs with
  | nil => simp
  | cons r rs ih => simp only [List.cons_append, extentSum_cons, ih, Int.add_assoc]

/-- A placed list is what stands ahead of its physical tail, and the tail (R5). -/
theorem Lane.placed_eq_of_tail {l : Lane} {r : Record} (h : l.tail? = some r) :
    l.placed = l.placed.dropLast ++ [r] :=
  (List.dropLast_append_getLast? r h).symm

/-- A record appended keeps U the sum over the placed list (R9). -/
theorem Lane.append_used {gap : Int} {l : Lane} (r : Record) (h : l.used = extentSum gap l.placed) :
    (l.append gap r).used = extentSum gap (l.append gap r).placed := by
  unfold Lane.append
  rw [extentSum_append, ← h, extentSum_cons, extentSum_nil, Int.add_zero]

/-- The tail removed keeps U the sum over the placed list (R9). -/
theorem Lane.removeTail_used {gap : Int} {l : Lane} {r : Record} (hr : l.tail? = some r)
    (h : l.used = extentSum gap l.placed) :
    (l.removeTail gap r).used = extentSum gap (l.removeTail gap r).placed := by
  have hp := congrArg (extentSum gap) (Lane.placed_eq_of_tail hr)
  rw [extentSum_append, extentSum_cons, extentSum_nil, Int.add_zero] at hp
  unfold Lane.removeTail
  dsimp only
  omega

/-! ## Parts of the retained copy -/

/-- A write begins, or one further write is marked (R179). -/
theorem Part.touch_cases {α : Type} (c : α) (p : Part α) :
    (p.writing = none ∧ p.touch c = { p with writing := some c }) ∨
    (∃ w, p.writing = some w ∧ p.touch c = { p with further := true }) := by
  unfold Part.touch
  split
  · exact .inl ⟨‹_›, rfl⟩
  · exact .inr ⟨_, ‹_›, rfl⟩

/-- A write that completes makes its contents valid, and a further write begins with the contents as they
stand (R179). -/
theorem Part.complete_cases {α : Type} (c : α) (p : Part α) :
    (p.writing = none ∧ p.complete c = p) ∨
    (∃ w, p.writing = some w ∧
      p.complete c =
        { kept := .valid w, writing := if p.further then some c else none, further := false }) := by
  unfold Part.complete
  split
  · exact .inl ⟨‹_›, rfl⟩
  · exact .inr ⟨_, ‹_›, rfl⟩

/-- The lane copies keep their numbers, whatever lanes are touched (R179). -/
theorem touchLane_numbers (t : LaneTable) (ps : List LanePart) (n : Nat) :
    (touchLane t ps n).map (·.number) = ps.map (·.number) := by
  unfold touchLane
  split
  · rfl
  · rw [List.map_map]
    apply List.map_congr_left
    intro p _
    simp only [Function.comp_apply]
    split <;> rfl

end Sys2Proof.Machine
end

