-- ==== Sys2Proof/Laws/State.lean ====
section
/-! SUPPORT. What each field is after each update of the state: one lemma per field per update, true
by rfl, so that no proof unfolds an update. -/

namespace Sys2Proof.Machine

open Sys2Proof

@[simp] theorem State.setNow_now (s : State) (v : Nat) : (s.setNow v).now = v := rfl
@[simp] theorem State.setNow_stopLine (s : State) (v : Nat) : (s.setNow v).stopLine = s.stopLine := rfl
@[simp] theorem State.setNow_gradientPin (s : State) (v : Nat) : (s.setNow v).gradientPin = s.gradientPin := rfl
@[simp] theorem State.setNow_life (s : State) (v : Nat) : (s.setNow v).life = s.life := rfl
@[simp] theorem State.setNow_node (s : State) (v : Nat) : (s.setNow v).node = s.node := rfl
@[simp] theorem State.setNow_store (s : State) (v : Nat) : (s.setNow v).store = s.store := rfl
@[simp] theorem State.setNow_conf (s : State) (v : Nat) : (s.setNow v).conf = s.conf := rfl
@[simp] theorem State.setNow_table (s : State) (v : Nat) : (s.setNow v).table = s.table := rfl
@[simp] theorem State.setNow_eval (s : State) (v : Nat) : (s.setNow v).eval = s.eval := rfl
@[simp] theorem State.setNow_tally (s : State) (v : Nat) : (s.setNow v).tally = s.tally := rfl
@[simp] theorem State.setNow_dli (s : State) (v : Nat) : (s.setNow v).dli = s.dli := rfl
@[simp] theorem State.setNow_rounds (s : State) (v : Nat) : (s.setNow v).rounds = s.rounds := rfl
@[simp] theorem State.setNow_conditions (s : State) (v : Nat) : (s.setNow v).conditions = s.conditions := rfl
@[simp] theorem State.setNow_sensor (s : State) (v : Nat) : (s.setNow v).sensor = s.sensor := rfl
@[simp] theorem State.setNow_listenDue (s : State) (v : Nat) : (s.setNow v).listenDue = s.listenDue := rfl
@[simp] theorem State.setNow_retained (s : State) (v : Nat) : (s.setNow v).retained = s.retained := rfl
@[simp] theorem State.setNow_out (s : State) (v : Nat) : (s.setNow v).out = s.out := rfl
@[simp] theorem State.setNow_handed (s : State) (v : Nat) : (s.setNow v).handed = s.handed := rfl
@[simp] theorem State.setNow_pending (s : State) (v : Nat) : (s.setNow v).pending = s.pending := rfl

@[simp] theorem State.setStopLine_now (s : State) (v : Bool) : (s.setStopLine v).now = s.now := rfl
@[simp] theorem State.setStopLine_stopLine (s : State) (v : Bool) : (s.setStopLine v).stopLine = v := rfl
@[simp] theorem State.setStopLine_gradientPin (s : State) (v : Bool) : (s.setStopLine v).gradientPin = s.gradientPin := rfl
@[simp] theorem State.setStopLine_life (s : State) (v : Bool) : (s.setStopLine v).life = s.life := rfl
@[simp] theorem State.setStopLine_node (s : State) (v : Bool) : (s.setStopLine v).node = s.node := rfl
@[simp] theorem State.setStopLine_store (s : State) (v : Bool) : (s.setStopLine v).store = s.store := rfl
@[simp] theorem State.setStopLine_conf (s : State) (v : Bool) : (s.setStopLine v).conf = s.conf := rfl
@[simp] theorem State.setStopLine_table (s : State) (v : Bool) : (s.setStopLine v).table = s.table := rfl
@[simp] theorem State.setStopLine_eval (s : State) (v : Bool) : (s.setStopLine v).eval = s.eval := rfl
@[simp] theorem State.setStopLine_tally (s : State) (v : Bool) : (s.setStopLine v).tally = s.tally := rfl
@[simp] theorem State.setStopLine_dli (s : State) (v : Bool) : (s.setStopLine v).dli = s.dli := rfl
@[simp] theorem State.setStopLine_rounds (s : State) (v : Bool) : (s.setStopLine v).rounds = s.rounds := rfl
@[simp] theorem State.setStopLine_conditions (s : State) (v : Bool) : (s.setStopLine v).conditions = s.conditions := rfl
@[simp] theorem State.setStopLine_sensor (s : State) (v : Bool) : (s.setStopLine v).sensor = s.sensor := rfl
@[simp] theorem State.setStopLine_listenDue (s : State) (v : Bool) : (s.setStopLine v).listenDue = s.listenDue := rfl
@[simp] theorem State.setStopLine_retained (s : State) (v : Bool) : (s.setStopLine v).retained = s.retained := rfl
@[simp] theorem State.setStopLine_out (s : State) (v : Bool) : (s.setStopLine v).out = s.out := rfl
@[simp] theorem State.setStopLine_handed (s : State) (v : Bool) : (s.setStopLine v).handed = s.handed := rfl
@[simp] theorem State.setStopLine_pending (s : State) (v : Bool) : (s.setStopLine v).pending = s.pending := rfl

@[simp] theorem State.setGradientPin_now (s : State) (v : Fin 4) : (s.setGradientPin v).now = s.now := rfl
@[simp] theorem State.setGradientPin_stopLine (s : State) (v : Fin 4) : (s.setGradientPin v).stopLine = s.stopLine := rfl
@[simp] theorem State.setGradientPin_gradientPin (s : State) (v : Fin 4) : (s.setGradientPin v).gradientPin = v := rfl
@[simp] theorem State.setGradientPin_life (s : State) (v : Fin 4) : (s.setGradientPin v).life = s.life := rfl
@[simp] theorem State.setGradientPin_node (s : State) (v : Fin 4) : (s.setGradientPin v).node = s.node := rfl
@[simp] theorem State.setGradientPin_store (s : State) (v : Fin 4) : (s.setGradientPin v).store = s.store := rfl
@[simp] theorem State.setGradientPin_conf (s : State) (v : Fin 4) : (s.setGradientPin v).conf = s.conf := rfl
@[simp] theorem State.setGradientPin_table (s : State) (v : Fin 4) : (s.setGradientPin v).table = s.table := rfl
@[simp] theorem State.setGradientPin_eval (s : State) (v : Fin 4) : (s.setGradientPin v).eval = s.eval := rfl
@[simp] theorem State.setGradientPin_tally (s : State) (v : Fin 4) : (s.setGradientPin v).tally = s.tally := rfl
@[simp] theorem State.setGradientPin_dli (s : State) (v : Fin 4) : (s.setGradientPin v).dli = s.dli := rfl
@[simp] theorem State.setGradientPin_rounds (s : State) (v : Fin 4) : (s.setGradientPin v).rounds = s.rounds := rfl
@[simp] theorem State.setGradientPin_conditions (s : State) (v : Fin 4) : (s.setGradientPin v).conditions = s.conditions := rfl
@[simp] theorem State.setGradientPin_sensor (s : State) (v : Fin 4) : (s.setGradientPin v).sensor = s.sensor := rfl
@[simp] theorem State.setGradientPin_listenDue (s : State) (v : Fin 4) : (s.setGradientPin v).listenDue = s.listenDue := rfl
@[simp] theorem State.setGradientPin_retained (s : State) (v : Fin 4) : (s.setGradientPin v).retained = s.retained := rfl
@[simp] theorem State.setGradientPin_out (s : State) (v : Fin 4) : (s.setGradientPin v).out = s.out := rfl
@[simp] theorem State.setGradientPin_handed (s : State) (v : Fin 4) : (s.setGradientPin v).handed = s.handed := rfl
@[simp] theorem State.setGradientPin_pending (s : State) (v : Fin 4) : (s.setGradientPin v).pending = s.pending := rfl

@[simp] theorem State.setLife_now (s : State) (v : Life) : (s.setLife v).now = s.now := rfl
@[simp] theorem State.setLife_stopLine (s : State) (v : Life) : (s.setLife v).stopLine = s.stopLine := rfl
@[simp] theorem State.setLife_gradientPin (s : State) (v : Life) : (s.setLife v).gradientPin = s.gradientPin := rfl
@[simp] theorem State.setLife_life (s : State) (v : Life) : (s.setLife v).life = v := rfl
@[simp] theorem State.setLife_node (s : State) (v : Life) : (s.setLife v).node = s.node := rfl
@[simp] theorem State.setLife_store (s : State) (v : Life) : (s.setLife v).store = s.store := rfl
@[simp] theorem State.setLife_conf (s : State) (v : Life) : (s.setLife v).conf = s.conf := rfl
@[simp] theorem State.setLife_table (s : State) (v : Life) : (s.setLife v).table = s.table := rfl
@[simp] theorem State.setLife_eval (s : State) (v : Life) : (s.setLife v).eval = s.eval := rfl
@[simp] theorem State.setLife_tally (s : State) (v : Life) : (s.setLife v).tally = s.tally := rfl
@[simp] theorem State.setLife_dli (s : State) (v : Life) : (s.setLife v).dli = s.dli := rfl
@[simp] theorem State.setLife_rounds (s : State) (v : Life) : (s.setLife v).rounds = s.rounds := rfl
@[simp] theorem State.setLife_conditions (s : State) (v : Life) : (s.setLife v).conditions = s.conditions := rfl
@[simp] theorem State.setLife_sensor (s : State) (v : Life) : (s.setLife v).sensor = s.sensor := rfl
@[simp] theorem State.setLife_listenDue (s : State) (v : Life) : (s.setLife v).listenDue = s.listenDue := rfl
@[simp] theorem State.setLife_retained (s : State) (v : Life) : (s.setLife v).retained = s.retained := rfl
@[simp] theorem State.setLife_out (s : State) (v : Life) : (s.setLife v).out = s.out := rfl
@[simp] theorem State.setLife_handed (s : State) (v : Life) : (s.setLife v).handed = s.handed := rfl
@[simp] theorem State.setLife_pending (s : State) (v : Life) : (s.setLife v).pending = s.pending := rfl

@[simp] theorem State.setNode_now (s : State) (v : NodeState) : (s.setNode v).now = s.now := rfl
@[simp] theorem State.setNode_stopLine (s : State) (v : NodeState) : (s.setNode v).stopLine = s.stopLine := rfl
@[simp] theorem State.setNode_gradientPin (s : State) (v : NodeState) : (s.setNode v).gradientPin = s.gradientPin := rfl
@[simp] theorem State.setNode_life (s : State) (v : NodeState) : (s.setNode v).life = s.life := rfl
@[simp] theorem State.setNode_node (s : State) (v : NodeState) : (s.setNode v).node = v := rfl
@[simp] theorem State.setNode_store (s : State) (v : NodeState) : (s.setNode v).store = s.store := rfl
@[simp] theorem State.setNode_conf (s : State) (v : NodeState) : (s.setNode v).conf = s.conf := rfl
@[simp] theorem State.setNode_table (s : State) (v : NodeState) : (s.setNode v).table = s.table := rfl
@[simp] theorem State.setNode_eval (s : State) (v : NodeState) : (s.setNode v).eval = s.eval := rfl
@[simp] theorem State.setNode_tally (s : State) (v : NodeState) : (s.setNode v).tally = s.tally := rfl
@[simp] theorem State.setNode_dli (s : State) (v : NodeState) : (s.setNode v).dli = s.dli := rfl
@[simp] theorem State.setNode_rounds (s : State) (v : NodeState) : (s.setNode v).rounds = s.rounds := rfl
@[simp] theorem State.setNode_conditions (s : State) (v : NodeState) : (s.setNode v).conditions = s.conditions := rfl
@[simp] theorem State.setNode_sensor (s : State) (v : NodeState) : (s.setNode v).sensor = s.sensor := rfl
@[simp] theorem State.setNode_listenDue (s : State) (v : NodeState) : (s.setNode v).listenDue = s.listenDue := rfl
@[simp] theorem State.setNode_retained (s : State) (v : NodeState) : (s.setNode v).retained = s.retained := rfl
@[simp] theorem State.setNode_out (s : State) (v : NodeState) : (s.setNode v).out = s.out := rfl
@[simp] theorem State.setNode_handed (s : State) (v : NodeState) : (s.setNode v).handed = s.handed := rfl
@[simp] theorem State.setNode_pending (s : State) (v : NodeState) : (s.setNode v).pending = s.pending := rfl

@[simp] theorem State.setStore_now (s : State) (v : ConfigStore) : (s.setStore v).now = s.now := rfl
@[simp] theorem State.setStore_stopLine (s : State) (v : ConfigStore) : (s.setStore v).stopLine = s.stopLine := rfl
@[simp] theorem State.setStore_gradientPin (s : State) (v : ConfigStore) : (s.setStore v).gradientPin = s.gradientPin := rfl
@[simp] theorem State.setStore_life (s : State) (v : ConfigStore) : (s.setStore v).life = s.life := rfl
@[simp] theorem State.setStore_node (s : State) (v : ConfigStore) : (s.setStore v).node = s.node := rfl
@[simp] theorem State.setStore_store (s : State) (v : ConfigStore) : (s.setStore v).store = v := rfl
@[simp] theorem State.setStore_conf (s : State) (v : ConfigStore) : (s.setStore v).conf = s.conf := rfl
@[simp] theorem State.setStore_table (s : State) (v : ConfigStore) : (s.setStore v).table = s.table := rfl
@[simp] theorem State.setStore_eval (s : State) (v : ConfigStore) : (s.setStore v).eval = s.eval := rfl
@[simp] theorem State.setStore_tally (s : State) (v : ConfigStore) : (s.setStore v).tally = s.tally := rfl
@[simp] theorem State.setStore_dli (s : State) (v : ConfigStore) : (s.setStore v).dli = s.dli := rfl
@[simp] theorem State.setStore_rounds (s : State) (v : ConfigStore) : (s.setStore v).rounds = s.rounds := rfl
@[simp] theorem State.setStore_conditions (s : State) (v : ConfigStore) : (s.setStore v).conditions = s.conditions := rfl
@[simp] theorem State.setStore_sensor (s : State) (v : ConfigStore) : (s.setStore v).sensor = s.sensor := rfl
@[simp] theorem State.setStore_listenDue (s : State) (v : ConfigStore) : (s.setStore v).listenDue = s.listenDue := rfl
@[simp] theorem State.setStore_retained (s : State) (v : ConfigStore) : (s.setStore v).retained = s.retained := rfl
@[simp] theorem State.setStore_out (s : State) (v : ConfigStore) : (s.setStore v).out = s.out := rfl
@[simp] theorem State.setStore_handed (s : State) (v : ConfigStore) : (s.setStore v).handed = s.handed := rfl
@[simp] theorem State.setStore_pending (s : State) (v : ConfigStore) : (s.setStore v).pending = s.pending := rfl

@[simp] theorem State.setConf_now (s : State) (v : Conf) : (s.setConf v).now = s.now := rfl
@[simp] theorem State.setConf_stopLine (s : State) (v : Conf) : (s.setConf v).stopLine = s.stopLine := rfl
@[simp] theorem State.setConf_gradientPin (s : State) (v : Conf) : (s.setConf v).gradientPin = s.gradientPin := rfl
@[simp] theorem State.setConf_life (s : State) (v : Conf) : (s.setConf v).life = s.life := rfl
@[simp] theorem State.setConf_node (s : State) (v : Conf) : (s.setConf v).node = s.node := rfl
@[simp] theorem State.setConf_store (s : State) (v : Conf) : (s.setConf v).store = s.store := rfl
@[simp] theorem State.setConf_conf (s : State) (v : Conf) : (s.setConf v).conf = v := rfl
@[simp] theorem State.setConf_table (s : State) (v : Conf) : (s.setConf v).table = s.table := rfl
@[simp] theorem State.setConf_eval (s : State) (v : Conf) : (s.setConf v).eval = s.eval := rfl
@[simp] theorem State.setConf_tally (s : State) (v : Conf) : (s.setConf v).tally = s.tally := rfl
@[simp] theorem State.setConf_dli (s : State) (v : Conf) : (s.setConf v).dli = s.dli := rfl
@[simp] theorem State.setConf_rounds (s : State) (v : Conf) : (s.setConf v).rounds = s.rounds := rfl
@[simp] theorem State.setConf_conditions (s : State) (v : Conf) : (s.setConf v).conditions = s.conditions := rfl
@[simp] theorem State.setConf_sensor (s : State) (v : Conf) : (s.setConf v).sensor = s.sensor := rfl
@[simp] theorem State.setConf_listenDue (s : State) (v : Conf) : (s.setConf v).listenDue = s.listenDue := rfl
@[simp] theorem State.setConf_retained (s : State) (v : Conf) : (s.setConf v).retained = s.retained := rfl
@[simp] theorem State.setConf_out (s : State) (v : Conf) : (s.setConf v).out = s.out := rfl
@[simp] theorem State.setConf_handed (s : State) (v : Conf) : (s.setConf v).handed = s.handed := rfl
@[simp] theorem State.setConf_pending (s : State) (v : Conf) : (s.setConf v).pending = s.pending := rfl

@[simp] theorem State.setTable_now (s : State) (v : LaneTable) : (s.setTable v).now = s.now := rfl
@[simp] theorem State.setTable_stopLine (s : State) (v : LaneTable) : (s.setTable v).stopLine = s.stopLine := rfl
@[simp] theorem State.setTable_gradientPin (s : State) (v : LaneTable) : (s.setTable v).gradientPin = s.gradientPin := rfl
@[simp] theorem State.setTable_life (s : State) (v : LaneTable) : (s.setTable v).life = s.life := rfl
@[simp] theorem State.setTable_node (s : State) (v : LaneTable) : (s.setTable v).node = s.node := rfl
@[simp] theorem State.setTable_store (s : State) (v : LaneTable) : (s.setTable v).store = s.store := rfl
@[simp] theorem State.setTable_conf (s : State) (v : LaneTable) : (s.setTable v).conf = s.conf := rfl
@[simp] theorem State.setTable_table (s : State) (v : LaneTable) : (s.setTable v).table = v := rfl
@[simp] theorem State.setTable_eval (s : State) (v : LaneTable) : (s.setTable v).eval = s.eval := rfl
@[simp] theorem State.setTable_tally (s : State) (v : LaneTable) : (s.setTable v).tally = s.tally := rfl
@[simp] theorem State.setTable_dli (s : State) (v : LaneTable) : (s.setTable v).dli = s.dli := rfl
@[simp] theorem State.setTable_rounds (s : State) (v : LaneTable) : (s.setTable v).rounds = s.rounds := rfl
@[simp] theorem State.setTable_conditions (s : State) (v : LaneTable) : (s.setTable v).conditions = s.conditions := rfl
@[simp] theorem State.setTable_sensor (s : State) (v : LaneTable) : (s.setTable v).sensor = s.sensor := rfl
@[simp] theorem State.setTable_listenDue (s : State) (v : LaneTable) : (s.setTable v).listenDue = s.listenDue := rfl
@[simp] theorem State.setTable_retained (s : State) (v : LaneTable) : (s.setTable v).retained = s.retained := rfl
@[simp] theorem State.setTable_out (s : State) (v : LaneTable) : (s.setTable v).out = s.out := rfl
@[simp] theorem State.setTable_handed (s : State) (v : LaneTable) : (s.setTable v).handed = s.handed := rfl
@[simp] theorem State.setTable_pending (s : State) (v : LaneTable) : (s.setTable v).pending = s.pending := rfl

@[simp] theorem State.setEval_now (s : State) (v : Evaluator) : (s.setEval v).now = s.now := rfl
@[simp] theorem State.setEval_stopLine (s : State) (v : Evaluator) : (s.setEval v).stopLine = s.stopLine := rfl
@[simp] theorem State.setEval_gradientPin (s : State) (v : Evaluator) : (s.setEval v).gradientPin = s.gradientPin := rfl
@[simp] theorem State.setEval_life (s : State) (v : Evaluator) : (s.setEval v).life = s.life := rfl
@[simp] theorem State.setEval_node (s : State) (v : Evaluator) : (s.setEval v).node = s.node := rfl
@[simp] theorem State.setEval_store (s : State) (v : Evaluator) : (s.setEval v).store = s.store := rfl
@[simp] theorem State.setEval_conf (s : State) (v : Evaluator) : (s.setEval v).conf = s.conf := rfl
@[simp] theorem State.setEval_table (s : State) (v : Evaluator) : (s.setEval v).table = s.table := rfl
@[simp] theorem State.setEval_eval (s : State) (v : Evaluator) : (s.setEval v).eval = v := rfl
@[simp] theorem State.setEval_tally (s : State) (v : Evaluator) : (s.setEval v).tally = s.tally := rfl
@[simp] theorem State.setEval_dli (s : State) (v : Evaluator) : (s.setEval v).dli = s.dli := rfl
@[simp] theorem State.setEval_rounds (s : State) (v : Evaluator) : (s.setEval v).rounds = s.rounds := rfl
@[simp] theorem State.setEval_conditions (s : State) (v : Evaluator) : (s.setEval v).conditions = s.conditions := rfl
@[simp] theorem State.setEval_sensor (s : State) (v : Evaluator) : (s.setEval v).sensor = s.sensor := rfl
@[simp] theorem State.setEval_listenDue (s : State) (v : Evaluator) : (s.setEval v).listenDue = s.listenDue := rfl
@[simp] theorem State.setEval_retained (s : State) (v : Evaluator) : (s.setEval v).retained = s.retained := rfl
@[simp] theorem State.setEval_out (s : State) (v : Evaluator) : (s.setEval v).out = s.out := rfl
@[simp] theorem State.setEval_handed (s : State) (v : Evaluator) : (s.setEval v).handed = s.handed := rfl
@[simp] theorem State.setEval_pending (s : State) (v : Evaluator) : (s.setEval v).pending = s.pending := rfl

@[simp] theorem State.setTally_now (s : State) (v : TallyUnit) : (s.setTally v).now = s.now := rfl
@[simp] theorem State.setTally_stopLine (s : State) (v : TallyUnit) : (s.setTally v).stopLine = s.stopLine := rfl
@[simp] theorem State.setTally_gradientPin (s : State) (v : TallyUnit) : (s.setTally v).gradientPin = s.gradientPin := rfl
@[simp] theorem State.setTally_life (s : State) (v : TallyUnit) : (s.setTally v).life = s.life := rfl
@[simp] theorem State.setTally_node (s : State) (v : TallyUnit) : (s.setTally v).node = s.node := rfl
@[simp] theorem State.setTally_store (s : State) (v : TallyUnit) : (s.setTally v).store = s.store := rfl
@[simp] theorem State.setTally_conf (s : State) (v : TallyUnit) : (s.setTally v).conf = s.conf := rfl
@[simp] theorem State.setTally_table (s : State) (v : TallyUnit) : (s.setTally v).table = s.table := rfl
@[simp] theorem State.setTally_eval (s : State) (v : TallyUnit) : (s.setTally v).eval = s.eval := rfl
@[simp] theorem State.setTally_tally (s : State) (v : TallyUnit) : (s.setTally v).tally = v := rfl
@[simp] theorem State.setTally_dli (s : State) (v : TallyUnit) : (s.setTally v).dli = s.dli := rfl
@[simp] theorem State.setTally_rounds (s : State) (v : TallyUnit) : (s.setTally v).rounds = s.rounds := rfl
@[simp] theorem State.setTally_conditions (s : State) (v : TallyUnit) : (s.setTally v).conditions = s.conditions := rfl
@[simp] theorem State.setTally_sensor (s : State) (v : TallyUnit) : (s.setTally v).sensor = s.sensor := rfl
@[simp] theorem State.setTally_listenDue (s : State) (v : TallyUnit) : (s.setTally v).listenDue = s.listenDue := rfl
@[simp] theorem State.setTally_retained (s : State) (v : TallyUnit) : (s.setTally v).retained = s.retained := rfl
@[simp] theorem State.setTally_out (s : State) (v : TallyUnit) : (s.setTally v).out = s.out := rfl
@[simp] theorem State.setTally_handed (s : State) (v : TallyUnit) : (s.setTally v).handed = s.handed := rfl
@[simp] theorem State.setTally_pending (s : State) (v : TallyUnit) : (s.setTally v).pending = s.pending := rfl

@[simp] theorem State.setDli_now (s : State) (v : Dli) : (s.setDli v).now = s.now := rfl
@[simp] theorem State.setDli_stopLine (s : State) (v : Dli) : (s.setDli v).stopLine = s.stopLine := rfl
@[simp] theorem State.setDli_gradientPin (s : State) (v : Dli) : (s.setDli v).gradientPin = s.gradientPin := rfl
@[simp] theorem State.setDli_life (s : State) (v : Dli) : (s.setDli v).life = s.life := rfl
@[simp] theorem State.setDli_node (s : State) (v : Dli) : (s.setDli v).node = s.node := rfl
@[simp] theorem State.setDli_store (s : State) (v : Dli) : (s.setDli v).store = s.store := rfl
@[simp] theorem State.setDli_conf (s : State) (v : Dli) : (s.setDli v).conf = s.conf := rfl
@[simp] theorem State.setDli_table (s : State) (v : Dli) : (s.setDli v).table = s.table := rfl
@[simp] theorem State.setDli_eval (s : State) (v : Dli) : (s.setDli v).eval = s.eval := rfl
@[simp] theorem State.setDli_tally (s : State) (v : Dli) : (s.setDli v).tally = s.tally := rfl
@[simp] theorem State.setDli_dli (s : State) (v : Dli) : (s.setDli v).dli = v := rfl
@[simp] theorem State.setDli_rounds (s : State) (v : Dli) : (s.setDli v).rounds = s.rounds := rfl
@[simp] theorem State.setDli_conditions (s : State) (v : Dli) : (s.setDli v).conditions = s.conditions := rfl
@[simp] theorem State.setDli_sensor (s : State) (v : Dli) : (s.setDli v).sensor = s.sensor := rfl
@[simp] theorem State.setDli_listenDue (s : State) (v : Dli) : (s.setDli v).listenDue = s.listenDue := rfl
@[simp] theorem State.setDli_retained (s : State) (v : Dli) : (s.setDli v).retained = s.retained := rfl
@[simp] theorem State.setDli_out (s : State) (v : Dli) : (s.setDli v).out = s.out := rfl
@[simp] theorem State.setDli_handed (s : State) (v : Dli) : (s.setDli v).handed = s.handed := rfl
@[simp] theorem State.setDli_pending (s : State) (v : Dli) : (s.setDli v).pending = s.pending := rfl

@[simp] theorem State.setRounds_now (s : State) (v : RoundController) : (s.setRounds v).now = s.now := rfl
@[simp] theorem State.setRounds_stopLine (s : State) (v : RoundController) : (s.setRounds v).stopLine = s.stopLine := rfl
@[simp] theorem State.setRounds_gradientPin (s : State) (v : RoundController) : (s.setRounds v).gradientPin = s.gradientPin := rfl
@[simp] theorem State.setRounds_life (s : State) (v : RoundController) : (s.setRounds v).life = s.life := rfl
@[simp] theorem State.setRounds_node (s : State) (v : RoundController) : (s.setRounds v).node = s.node := rfl
@[simp] theorem State.setRounds_store (s : State) (v : RoundController) : (s.setRounds v).store = s.store := rfl
@[simp] theorem State.setRounds_conf (s : State) (v : RoundController) : (s.setRounds v).conf = s.conf := rfl
@[simp] theorem State.setRounds_table (s : State) (v : RoundController) : (s.setRounds v).table = s.table := rfl
@[simp] theorem State.setRounds_eval (s : State) (v : RoundController) : (s.setRounds v).eval = s.eval := rfl
@[simp] theorem State.setRounds_tally (s : State) (v : RoundController) : (s.setRounds v).tally = s.tally := rfl
@[simp] theorem State.setRounds_dli (s : State) (v : RoundController) : (s.setRounds v).dli = s.dli := rfl
@[simp] theorem State.setRounds_rounds (s : State) (v : RoundController) : (s.setRounds v).rounds = v := rfl
@[simp] theorem State.setRounds_conditions (s : State) (v : RoundController) : (s.setRounds v).conditions = s.conditions := rfl
@[simp] theorem State.setRounds_sensor (s : State) (v : RoundController) : (s.setRounds v).sensor = s.sensor := rfl
@[simp] theorem State.setRounds_listenDue (s : State) (v : RoundController) : (s.setRounds v).listenDue = s.listenDue := rfl
@[simp] theorem State.setRounds_retained (s : State) (v : RoundController) : (s.setRounds v).retained = s.retained := rfl
@[simp] theorem State.setRounds_out (s : State) (v : RoundController) : (s.setRounds v).out = s.out := rfl
@[simp] theorem State.setRounds_handed (s : State) (v : RoundController) : (s.setRounds v).handed = s.handed := rfl
@[simp] theorem State.setRounds_pending (s : State) (v : RoundController) : (s.setRounds v).pending = s.pending := rfl

@[simp] theorem State.setConditions_now (s : State) (v : List Condition) : (s.setConditions v).now = s.now := rfl
@[simp] theorem State.setConditions_stopLine (s : State) (v : List Condition) : (s.setConditions v).stopLine = s.stopLine := rfl
@[simp] theorem State.setConditions_gradientPin (s : State) (v : List Condition) : (s.setConditions v).gradientPin = s.gradientPin := rfl
@[simp] theorem State.setConditions_life (s : State) (v : List Condition) : (s.setConditions v).life = s.life := rfl
@[simp] theorem State.setConditions_node (s : State) (v : List Condition) : (s.setConditions v).node = s.node := rfl
@[simp] theorem State.setConditions_store (s : State) (v : List Condition) : (s.setConditions v).store = s.store := rfl
@[simp] theorem State.setConditions_conf (s : State) (v : List Condition) : (s.setConditions v).conf = s.conf := rfl
@[simp] theorem State.setConditions_table (s : State) (v : List Condition) : (s.setConditions v).table = s.table := rfl
@[simp] theorem State.setConditions_eval (s : State) (v : List Condition) : (s.setConditions v).eval = s.eval := rfl
@[simp] theorem State.setConditions_tally (s : State) (v : List Condition) : (s.setConditions v).tally = s.tally := rfl
@[simp] theorem State.setConditions_dli (s : State) (v : List Condition) : (s.setConditions v).dli = s.dli := rfl
@[simp] theorem State.setConditions_rounds (s : State) (v : List Condition) : (s.setConditions v).rounds = s.rounds := rfl
@[simp] theorem State.setConditions_conditions (s : State) (v : List Condition) : (s.setConditions v).conditions = v := rfl
@[simp] theorem State.setConditions_sensor (s : State) (v : List Condition) : (s.setConditions v).sensor = s.sensor := rfl
@[simp] theorem State.setConditions_listenDue (s : State) (v : List Condition) : (s.setConditions v).listenDue = s.listenDue := rfl
@[simp] theorem State.setConditions_retained (s : State) (v : List Condition) : (s.setConditions v).retained = s.retained := rfl
@[simp] theorem State.setConditions_out (s : State) (v : List Condition) : (s.setConditions v).out = s.out := rfl
@[simp] theorem State.setConditions_handed (s : State) (v : List Condition) : (s.setConditions v).handed = s.handed := rfl
@[simp] theorem State.setConditions_pending (s : State) (v : List Condition) : (s.setConditions v).pending = s.pending := rfl

@[simp] theorem State.setSensor_now (s : State) (v : SensorPort) : (s.setSensor v).now = s.now := rfl
@[simp] theorem State.setSensor_stopLine (s : State) (v : SensorPort) : (s.setSensor v).stopLine = s.stopLine := rfl
@[simp] theorem State.setSensor_gradientPin (s : State) (v : SensorPort) : (s.setSensor v).gradientPin = s.gradientPin := rfl
@[simp] theorem State.setSensor_life (s : State) (v : SensorPort) : (s.setSensor v).life = s.life := rfl
@[simp] theorem State.setSensor_node (s : State) (v : SensorPort) : (s.setSensor v).node = s.node := rfl
@[simp] theorem State.setSensor_store (s : State) (v : SensorPort) : (s.setSensor v).store = s.store := rfl
@[simp] theorem State.setSensor_conf (s : State) (v : SensorPort) : (s.setSensor v).conf = s.conf := rfl
@[simp] theorem State.setSensor_table (s : State) (v : SensorPort) : (s.setSensor v).table = s.table := rfl
@[simp] theorem State.setSensor_eval (s : State) (v : SensorPort) : (s.setSensor v).eval = s.eval := rfl
@[simp] theorem State.setSensor_tally (s : State) (v : SensorPort) : (s.setSensor v).tally = s.tally := rfl
@[simp] theorem State.setSensor_dli (s : State) (v : SensorPort) : (s.setSensor v).dli = s.dli := rfl
@[simp] theorem State.setSensor_rounds (s : State) (v : SensorPort) : (s.setSensor v).rounds = s.rounds := rfl
@[simp] theorem State.setSensor_conditions (s : State) (v : SensorPort) : (s.setSensor v).conditions = s.conditions := rfl
@[simp] theorem State.setSensor_sensor (s : State) (v : SensorPort) : (s.setSensor v).sensor = v := rfl
@[simp] theorem State.setSensor_listenDue (s : State) (v : SensorPort) : (s.setSensor v).listenDue = s.listenDue := rfl
@[simp] theorem State.setSensor_retained (s : State) (v : SensorPort) : (s.setSensor v).retained = s.retained := rfl
@[simp] theorem State.setSensor_out (s : State) (v : SensorPort) : (s.setSensor v).out = s.out := rfl
@[simp] theorem State.setSensor_handed (s : State) (v : SensorPort) : (s.setSensor v).handed = s.handed := rfl
@[simp] theorem State.setSensor_pending (s : State) (v : SensorPort) : (s.setSensor v).pending = s.pending := rfl

@[simp] theorem State.setListenDue_now (s : State) (v : Option Nat) : (s.setListenDue v).now = s.now := rfl
@[simp] theorem State.setListenDue_stopLine (s : State) (v : Option Nat) : (s.setListenDue v).stopLine = s.stopLine := rfl
@[simp] theorem State.setListenDue_gradientPin (s : State) (v : Option Nat) : (s.setListenDue v).gradientPin = s.gradientPin := rfl
@[simp] theorem State.setListenDue_life (s : State) (v : Option Nat) : (s.setListenDue v).life = s.life := rfl
@[simp] theorem State.setListenDue_node (s : State) (v : Option Nat) : (s.setListenDue v).node = s.node := rfl
@[simp] theorem State.setListenDue_store (s : State) (v : Option Nat) : (s.setListenDue v).store = s.store := rfl
@[simp] theorem State.setListenDue_conf (s : State) (v : Option Nat) : (s.setListenDue v).conf = s.conf := rfl
@[simp] theorem State.setListenDue_table (s : State) (v : Option Nat) : (s.setListenDue v).table = s.table := rfl
@[simp] theorem State.setListenDue_eval (s : State) (v : Option Nat) : (s.setListenDue v).eval = s.eval := rfl
@[simp] theorem State.setListenDue_tally (s : State) (v : Option Nat) : (s.setListenDue v).tally = s.tally := rfl
@[simp] theorem State.setListenDue_dli (s : State) (v : Option Nat) : (s.setListenDue v).dli = s.dli := rfl
@[simp] theorem State.setListenDue_rounds (s : State) (v : Option Nat) : (s.setListenDue v).rounds = s.rounds := rfl
@[simp] theorem State.setListenDue_conditions (s : State) (v : Option Nat) : (s.setListenDue v).conditions = s.conditions := rfl
@[simp] theorem State.setListenDue_sensor (s : State) (v : Option Nat) : (s.setListenDue v).sensor = s.sensor := rfl
@[simp] theorem State.setListenDue_listenDue (s : State) (v : Option Nat) : (s.setListenDue v).listenDue = v := rfl
@[simp] theorem State.setListenDue_retained (s : State) (v : Option Nat) : (s.setListenDue v).retained = s.retained := rfl
@[simp] theorem State.setListenDue_out (s : State) (v : Option Nat) : (s.setListenDue v).out = s.out := rfl
@[simp] theorem State.setListenDue_handed (s : State) (v : Option Nat) : (s.setListenDue v).handed = s.handed := rfl
@[simp] theorem State.setListenDue_pending (s : State) (v : Option Nat) : (s.setListenDue v).pending = s.pending := rfl

@[simp] theorem State.setRetained_now (s : State) (v : Retained) : (s.setRetained v).now = s.now := rfl
@[simp] theorem State.setRetained_stopLine (s : State) (v : Retained) : (s.setRetained v).stopLine = s.stopLine := rfl
@[simp] theorem State.setRetained_gradientPin (s : State) (v : Retained) : (s.setRetained v).gradientPin = s.gradientPin := rfl
@[simp] theorem State.setRetained_life (s : State) (v : Retained) : (s.setRetained v).life = s.life := rfl
@[simp] theorem State.setRetained_node (s : State) (v : Retained) : (s.setRetained v).node = s.node := rfl
@[simp] theorem State.setRetained_store (s : State) (v : Retained) : (s.setRetained v).store = s.store := rfl
@[simp] theorem State.setRetained_conf (s : State) (v : Retained) : (s.setRetained v).conf = s.conf := rfl
@[simp] theorem State.setRetained_table (s : State) (v : Retained) : (s.setRetained v).table = s.table := rfl
@[simp] theorem State.setRetained_eval (s : State) (v : Retained) : (s.setRetained v).eval = s.eval := rfl
@[simp] theorem State.setRetained_tally (s : State) (v : Retained) : (s.setRetained v).tally = s.tally := rfl
@[simp] theorem State.setRetained_dli (s : State) (v : Retained) : (s.setRetained v).dli = s.dli := rfl
@[simp] theorem State.setRetained_rounds (s : State) (v : Retained) : (s.setRetained v).rounds = s.rounds := rfl
@[simp] theorem State.setRetained_conditions (s : State) (v : Retained) : (s.setRetained v).conditions = s.conditions := rfl
@[simp] theorem State.setRetained_sensor (s : State) (v : Retained) : (s.setRetained v).sensor = s.sensor := rfl
@[simp] theorem State.setRetained_listenDue (s : State) (v : Retained) : (s.setRetained v).listenDue = s.listenDue := rfl
@[simp] theorem State.setRetained_retained (s : State) (v : Retained) : (s.setRetained v).retained = v := rfl
@[simp] theorem State.setRetained_out (s : State) (v : Retained) : (s.setRetained v).out = s.out := rfl
@[simp] theorem State.setRetained_handed (s : State) (v : Retained) : (s.setRetained v).handed = s.handed := rfl
@[simp] theorem State.setRetained_pending (s : State) (v : Retained) : (s.setRetained v).pending = s.pending := rfl

@[simp] theorem State.setOut_now (s : State) (v : Outputs) : (s.setOut v).now = s.now := rfl
@[simp] theorem State.setOut_stopLine (s : State) (v : Outputs) : (s.setOut v).stopLine = s.stopLine := rfl
@[simp] theorem State.setOut_gradientPin (s : State) (v : Outputs) : (s.setOut v).gradientPin = s.gradientPin := rfl
@[simp] theorem State.setOut_life (s : State) (v : Outputs) : (s.setOut v).life = s.life := rfl
@[simp] theorem State.setOut_node (s : State) (v : Outputs) : (s.setOut v).node = s.node := rfl
@[simp] theorem State.setOut_store (s : State) (v : Outputs) : (s.setOut v).store = s.store := rfl
@[simp] theorem State.setOut_conf (s : State) (v : Outputs) : (s.setOut v).conf = s.conf := rfl
@[simp] theorem State.setOut_table (s : State) (v : Outputs) : (s.setOut v).table = s.table := rfl
@[simp] theorem State.setOut_eval (s : State) (v : Outputs) : (s.setOut v).eval = s.eval := rfl
@[simp] theorem State.setOut_tally (s : State) (v : Outputs) : (s.setOut v).tally = s.tally := rfl
@[simp] theorem State.setOut_dli (s : State) (v : Outputs) : (s.setOut v).dli = s.dli := rfl
@[simp] theorem State.setOut_rounds (s : State) (v : Outputs) : (s.setOut v).rounds = s.rounds := rfl
@[simp] theorem State.setOut_conditions (s : State) (v : Outputs) : (s.setOut v).conditions = s.conditions := rfl
@[simp] theorem State.setOut_sensor (s : State) (v : Outputs) : (s.setOut v).sensor = s.sensor := rfl
@[simp] theorem State.setOut_listenDue (s : State) (v : Outputs) : (s.setOut v).listenDue = s.listenDue := rfl
@[simp] theorem State.setOut_retained (s : State) (v : Outputs) : (s.setOut v).retained = s.retained := rfl
@[simp] theorem State.setOut_out (s : State) (v : Outputs) : (s.setOut v).out = v := rfl
@[simp] theorem State.setOut_handed (s : State) (v : Outputs) : (s.setOut v).handed = s.handed := rfl
@[simp] theorem State.setOut_pending (s : State) (v : Outputs) : (s.setOut v).pending = s.pending := rfl

@[simp] theorem State.setHanded_now (s : State) (v : HandedOn) : (s.setHanded v).now = s.now := rfl
@[simp] theorem State.setHanded_stopLine (s : State) (v : HandedOn) : (s.setHanded v).stopLine = s.stopLine := rfl
@[simp] theorem State.setHanded_gradientPin (s : State) (v : HandedOn) : (s.setHanded v).gradientPin = s.gradientPin := rfl
@[simp] theorem State.setHanded_life (s : State) (v : HandedOn) : (s.setHanded v).life = s.life := rfl
@[simp] theorem State.setHanded_node (s : State) (v : HandedOn) : (s.setHanded v).node = s.node := rfl
@[simp] theorem State.setHanded_store (s : State) (v : HandedOn) : (s.setHanded v).store = s.store := rfl
@[simp] theorem State.setHanded_conf (s : State) (v : HandedOn) : (s.setHanded v).conf = s.conf := rfl
@[simp] theorem State.setHanded_table (s : State) (v : HandedOn) : (s.setHanded v).table = s.table := rfl
@[simp] theorem State.setHanded_eval (s : State) (v : HandedOn) : (s.setHanded v).eval = s.eval := rfl
@[simp] theorem State.setHanded_tally (s : State) (v : HandedOn) : (s.setHanded v).tally = s.tally := rfl
@[simp] theorem State.setHanded_dli (s : State) (v : HandedOn) : (s.setHanded v).dli = s.dli := rfl
@[simp] theorem State.setHanded_rounds (s : State) (v : HandedOn) : (s.setHanded v).rounds = s.rounds := rfl
@[simp] theorem State.setHanded_conditions (s : State) (v : HandedOn) : (s.setHanded v).conditions = s.conditions := rfl
@[simp] theorem State.setHanded_sensor (s : State) (v : HandedOn) : (s.setHanded v).sensor = s.sensor := rfl
@[simp] theorem State.setHanded_listenDue (s : State) (v : HandedOn) : (s.setHanded v).listenDue = s.listenDue := rfl
@[simp] theorem State.setHanded_retained (s : State) (v : HandedOn) : (s.setHanded v).retained = s.retained := rfl
@[simp] theorem State.setHanded_out (s : State) (v : HandedOn) : (s.setHanded v).out = s.out := rfl
@[simp] theorem State.setHanded_handed (s : State) (v : HandedOn) : (s.setHanded v).handed = v := rfl
@[simp] theorem State.setHanded_pending (s : State) (v : HandedOn) : (s.setHanded v).pending = s.pending := rfl

@[simp] theorem State.setPending_now (s : State) (v : List Instr) : (s.setPending v).now = s.now := rfl
@[simp] theorem State.setPending_stopLine (s : State) (v : List Instr) : (s.setPending v).stopLine = s.stopLine := rfl
@[simp] theorem State.setPending_gradientPin (s : State) (v : List Instr) : (s.setPending v).gradientPin = s.gradientPin := rfl
@[simp] theorem State.setPending_life (s : State) (v : List Instr) : (s.setPending v).life = s.life := rfl
@[simp] theorem State.setPending_node (s : State) (v : List Instr) : (s.setPending v).node = s.node := rfl
@[simp] theorem State.setPending_store (s : State) (v : List Instr) : (s.setPending v).store = s.store := rfl
@[simp] theorem State.setPending_conf (s : State) (v : List Instr) : (s.setPending v).conf = s.conf := rfl
@[simp] theorem State.setPending_table (s : State) (v : List Instr) : (s.setPending v).table = s.table := rfl
@[simp] theorem State.setPending_eval (s : State) (v : List Instr) : (s.setPending v).eval = s.eval := rfl
@[simp] theorem State.setPending_tally (s : State) (v : List Instr) : (s.setPending v).tally = s.tally := rfl
@[simp] theorem State.setPending_dli (s : State) (v : List Instr) : (s.setPending v).dli = s.dli := rfl
@[simp] theorem State.setPending_rounds (s : State) (v : List Instr) : (s.setPending v).rounds = s.rounds := rfl
@[simp] theorem State.setPending_conditions (s : State) (v : List Instr) : (s.setPending v).conditions = s.conditions := rfl
@[simp] theorem State.setPending_sensor (s : State) (v : List Instr) : (s.setPending v).sensor = s.sensor := rfl
@[simp] theorem State.setPending_listenDue (s : State) (v : List Instr) : (s.setPending v).listenDue = s.listenDue := rfl
@[simp] theorem State.setPending_retained (s : State) (v : List Instr) : (s.setPending v).retained = s.retained := rfl
@[simp] theorem State.setPending_out (s : State) (v : List Instr) : (s.setPending v).out = s.out := rfl
@[simp] theorem State.setPending_handed (s : State) (v : List Instr) : (s.setPending v).handed = s.handed := rfl
@[simp] theorem State.setPending_pending (s : State) (v : List Instr) : (s.setPending v).pending = v := rfl

/-! Handing on changes `handed` alone, an output changes `out` alone. -/

@[simp] theorem State.handRestart_now (s : State) : (s.handRestart).now = s.now := rfl
@[simp] theorem State.handRestart_stopLine (s : State) : (s.handRestart).stopLine = s.stopLine := rfl
@[simp] theorem State.handRestart_gradientPin (s : State) : (s.handRestart).gradientPin = s.gradientPin := rfl
@[simp] theorem State.handRestart_life (s : State) : (s.handRestart).life = s.life := rfl
@[simp] theorem State.handRestart_node (s : State) : (s.handRestart).node = s.node := rfl
@[simp] theorem State.handRestart_store (s : State) : (s.handRestart).store = s.store := rfl
@[simp] theorem State.handRestart_conf (s : State) : (s.handRestart).conf = s.conf := rfl
@[simp] theorem State.handRestart_table (s : State) : (s.handRestart).table = s.table := rfl
@[simp] theorem State.handRestart_eval (s : State) : (s.handRestart).eval = s.eval := rfl
@[simp] theorem State.handRestart_tally (s : State) : (s.handRestart).tally = s.tally := rfl
@[simp] theorem State.handRestart_dli (s : State) : (s.handRestart).dli = s.dli := rfl
@[simp] theorem State.handRestart_rounds (s : State) : (s.handRestart).rounds = s.rounds := rfl
@[simp] theorem State.handRestart_conditions (s : State) : (s.handRestart).conditions = s.conditions := rfl
@[simp] theorem State.handRestart_sensor (s : State) : (s.handRestart).sensor = s.sensor := rfl
@[simp] theorem State.handRestart_listenDue (s : State) : (s.handRestart).listenDue = s.listenDue := rfl
@[simp] theorem State.handRestart_retained (s : State) : (s.handRestart).retained = s.retained := rfl
@[simp] theorem State.handRestart_out (s : State) : (s.handRestart).out = s.out := rfl
@[simp] theorem State.handRestart_pending (s : State) : (s.handRestart).pending = s.pending := rfl

@[simp] theorem State.handTally_now (s : State) : (s.handTally).now = s.now := rfl
@[simp] theorem State.handTally_stopLine (s : State) : (s.handTally).stopLine = s.stopLine := rfl
@[simp] theorem State.handTally_gradientPin (s : State) : (s.handTally).gradientPin = s.gradientPin := rfl
@[simp] theorem State.handTally_life (s : State) : (s.handTally).life = s.life := rfl
@[simp] theorem State.handTally_node (s : State) : (s.handTally).node = s.node := rfl
@[simp] theorem State.handTally_store (s : State) : (s.handTally).store = s.store := rfl
@[simp] theorem State.handTally_conf (s : State) : (s.handTally).conf = s.conf := rfl
@[simp] theorem State.handTally_table (s : State) : (s.handTally).table = s.table := rfl
@[simp] theorem State.handTally_eval (s : State) : (s.handTally).eval = s.eval := rfl
@[simp] theorem State.handTally_tally (s : State) : (s.handTally).tally = s.tally := rfl
@[simp] theorem State.handTally_dli (s : State) : (s.handTally).dli = s.dli := rfl
@[simp] theorem State.handTally_rounds (s : State) : (s.handTally).rounds = s.rounds := rfl
@[simp] theorem State.handTally_conditions (s : State) : (s.handTally).conditions = s.conditions := rfl
@[simp] theorem State.handTally_sensor (s : State) : (s.handTally).sensor = s.sensor := rfl
@[simp] theorem State.handTally_listenDue (s : State) : (s.handTally).listenDue = s.listenDue := rfl
@[simp] theorem State.handTally_retained (s : State) : (s.handTally).retained = s.retained := rfl
@[simp] theorem State.handTally_out (s : State) : (s.handTally).out = s.out := rfl
@[simp] theorem State.handTally_pending (s : State) : (s.handTally).pending = s.pending := rfl

@[simp] theorem State.handLane_now (n : Nat) (s : State) : (s.handLane n).now = s.now := rfl
@[simp] theorem State.handLane_stopLine (n : Nat) (s : State) : (s.handLane n).stopLine = s.stopLine := rfl
@[simp] theorem State.handLane_gradientPin (n : Nat) (s : State) : (s.handLane n).gradientPin = s.gradientPin := rfl
@[simp] theorem State.handLane_life (n : Nat) (s : State) : (s.handLane n).life = s.life := rfl
@[simp] theorem State.handLane_node (n : Nat) (s : State) : (s.handLane n).node = s.node := rfl
@[simp] theorem State.handLane_store (n : Nat) (s : State) : (s.handLane n).store = s.store := rfl
@[simp] theorem State.handLane_conf (n : Nat) (s : State) : (s.handLane n).conf = s.conf := rfl
@[simp] theorem State.handLane_table (n : Nat) (s : State) : (s.handLane n).table = s.table := rfl
@[simp] theorem State.handLane_eval (n : Nat) (s : State) : (s.handLane n).eval = s.eval := rfl
@[simp] theorem State.handLane_tally (n : Nat) (s : State) : (s.handLane n).tally = s.tally := rfl
@[simp] theorem State.handLane_dli (n : Nat) (s : State) : (s.handLane n).dli = s.dli := rfl
@[simp] theorem State.handLane_rounds (n : Nat) (s : State) : (s.handLane n).rounds = s.rounds := rfl
@[simp] theorem State.handLane_conditions (n : Nat) (s : State) : (s.handLane n).conditions = s.conditions := rfl
@[simp] theorem State.handLane_sensor (n : Nat) (s : State) : (s.handLane n).sensor = s.sensor := rfl
@[simp] theorem State.handLane_listenDue (n : Nat) (s : State) : (s.handLane n).listenDue = s.listenDue := rfl
@[simp] theorem State.handLane_retained (n : Nat) (s : State) : (s.handLane n).retained = s.retained := rfl
@[simp] theorem State.handLane_out (n : Nat) (s : State) : (s.handLane n).out = s.out := rfl
@[simp] theorem State.handLane_pending (n : Nat) (s : State) : (s.handLane n).pending = s.pending := rfl

@[simp] theorem State.handAllLanes_now (s : State) : (s.handAllLanes).now = s.now := rfl
@[simp] theorem State.handAllLanes_stopLine (s : State) : (s.handAllLanes).stopLine = s.stopLine := rfl
@[simp] theorem State.handAllLanes_gradientPin (s : State) : (s.handAllLanes).gradientPin = s.gradientPin := rfl
@[simp] theorem State.handAllLanes_life (s : State) : (s.handAllLanes).life = s.life := rfl
@[simp] theorem State.handAllLanes_node (s : State) : (s.handAllLanes).node = s.node := rfl
@[simp] theorem State.handAllLanes_store (s : State) : (s.handAllLanes).store = s.store := rfl
@[simp] theorem State.handAllLanes_conf (s : State) : (s.handAllLanes).conf = s.conf := rfl
@[simp] theorem State.handAllLanes_table (s : State) : (s.handAllLanes).table = s.table := rfl
@[simp] theorem State.handAllLanes_eval (s : State) : (s.handAllLanes).eval = s.eval := rfl
@[simp] theorem State.handAllLanes_tally (s : State) : (s.handAllLanes).tally = s.tally := rfl
@[simp] theorem State.handAllLanes_dli (s : State) : (s.handAllLanes).dli = s.dli := rfl
@[simp] theorem State.handAllLanes_rounds (s : State) : (s.handAllLanes).rounds = s.rounds := rfl
@[simp] theorem State.handAllLanes_conditions (s : State) : (s.handAllLanes).conditions = s.conditions := rfl
@[simp] theorem State.handAllLanes_sensor (s : State) : (s.handAllLanes).sensor = s.sensor := rfl
@[simp] theorem State.handAllLanes_listenDue (s : State) : (s.handAllLanes).listenDue = s.listenDue := rfl
@[simp] theorem State.handAllLanes_retained (s : State) : (s.handAllLanes).retained = s.retained := rfl
@[simp] theorem State.handAllLanes_out (s : State) : (s.handAllLanes).out = s.out := rfl
@[simp] theorem State.handAllLanes_pending (s : State) : (s.handAllLanes).pending = s.pending := rfl

@[simp] theorem State.handInbound_now (s : State) : (s.handInbound).now = s.now := rfl
@[simp] theorem State.handInbound_stopLine (s : State) : (s.handInbound).stopLine = s.stopLine := rfl
@[simp] theorem State.handInbound_gradientPin (s : State) : (s.handInbound).gradientPin = s.gradientPin := rfl
@[simp] theorem State.handInbound_life (s : State) : (s.handInbound).life = s.life := rfl
@[simp] theorem State.handInbound_node (s : State) : (s.handInbound).node = s.node := rfl
@[simp] theorem State.handInbound_store (s : State) : (s.handInbound).store = s.store := rfl
@[simp] theorem State.handInbound_conf (s : State) : (s.handInbound).conf = s.conf := rfl
@[simp] theorem State.handInbound_table (s : State) : (s.handInbound).table = s.table := rfl
@[simp] theorem State.handInbound_eval (s : State) : (s.handInbound).eval = s.eval := rfl
@[simp] theorem State.handInbound_tally (s : State) : (s.handInbound).tally = s.tally := rfl
@[simp] theorem State.handInbound_dli (s : State) : (s.handInbound).dli = s.dli := rfl
@[simp] theorem State.handInbound_rounds (s : State) : (s.handInbound).rounds = s.rounds := rfl
@[simp] theorem State.handInbound_conditions (s : State) : (s.handInbound).conditions = s.conditions := rfl
@[simp] theorem State.handInbound_sensor (s : State) : (s.handInbound).sensor = s.sensor := rfl
@[simp] theorem State.handInbound_listenDue (s : State) : (s.handInbound).listenDue = s.listenDue := rfl
@[simp] theorem State.handInbound_retained (s : State) : (s.handInbound).retained = s.retained := rfl
@[simp] theorem State.handInbound_out (s : State) : (s.handInbound).out = s.out := rfl
@[simp] theorem State.handInbound_pending (s : State) : (s.handInbound).pending = s.pending := rfl

@[simp] theorem State.handNode_now (s : State) : (s.handNode).now = s.now := rfl
@[simp] theorem State.handNode_stopLine (s : State) : (s.handNode).stopLine = s.stopLine := rfl
@[simp] theorem State.handNode_gradientPin (s : State) : (s.handNode).gradientPin = s.gradientPin := rfl
@[simp] theorem State.handNode_life (s : State) : (s.handNode).life = s.life := rfl
@[simp] theorem State.handNode_node (s : State) : (s.handNode).node = s.node := rfl
@[simp] theorem State.handNode_store (s : State) : (s.handNode).store = s.store := rfl
@[simp] theorem State.handNode_conf (s : State) : (s.handNode).conf = s.conf := rfl
@[simp] theorem State.handNode_table (s : State) : (s.handNode).table = s.table := rfl
@[simp] theorem State.handNode_eval (s : State) : (s.handNode).eval = s.eval := rfl
@[simp] theorem State.handNode_tally (s : State) : (s.handNode).tally = s.tally := rfl
@[simp] theorem State.handNode_dli (s : State) : (s.handNode).dli = s.dli := rfl
@[simp] theorem State.handNode_rounds (s : State) : (s.handNode).rounds = s.rounds := rfl
@[simp] theorem State.handNode_conditions (s : State) : (s.handNode).conditions = s.conditions := rfl
@[simp] theorem State.handNode_sensor (s : State) : (s.handNode).sensor = s.sensor := rfl
@[simp] theorem State.handNode_listenDue (s : State) : (s.handNode).listenDue = s.listenDue := rfl
@[simp] theorem State.handNode_retained (s : State) : (s.handNode).retained = s.retained := rfl
@[simp] theorem State.handNode_out (s : State) : (s.handNode).out = s.out := rfl
@[simp] theorem State.handNode_pending (s : State) : (s.handNode).pending = s.pending := rfl

@[simp] theorem State.handLook_now (s : State) : (s.handLook).now = s.now := rfl
@[simp] theorem State.handLook_stopLine (s : State) : (s.handLook).stopLine = s.stopLine := rfl
@[simp] theorem State.handLook_gradientPin (s : State) : (s.handLook).gradientPin = s.gradientPin := rfl
@[simp] theorem State.handLook_life (s : State) : (s.handLook).life = s.life := rfl
@[simp] theorem State.handLook_node (s : State) : (s.handLook).node = s.node := rfl
@[simp] theorem State.handLook_store (s : State) : (s.handLook).store = s.store := rfl
@[simp] theorem State.handLook_conf (s : State) : (s.handLook).conf = s.conf := rfl
@[simp] theorem State.handLook_table (s : State) : (s.handLook).table = s.table := rfl
@[simp] theorem State.handLook_eval (s : State) : (s.handLook).eval = s.eval := rfl
@[simp] theorem State.handLook_tally (s : State) : (s.handLook).tally = s.tally := rfl
@[simp] theorem State.handLook_dli (s : State) : (s.handLook).dli = s.dli := rfl
@[simp] theorem State.handLook_rounds (s : State) : (s.handLook).rounds = s.rounds := rfl
@[simp] theorem State.handLook_conditions (s : State) : (s.handLook).conditions = s.conditions := rfl
@[simp] theorem State.handLook_sensor (s : State) : (s.handLook).sensor = s.sensor := rfl
@[simp] theorem State.handLook_listenDue (s : State) : (s.handLook).listenDue = s.listenDue := rfl
@[simp] theorem State.handLook_retained (s : State) : (s.handLook).retained = s.retained := rfl
@[simp] theorem State.handLook_out (s : State) : (s.handLook).out = s.out := rfl
@[simp] theorem State.handLook_pending (s : State) : (s.handLook).pending = s.pending := rfl

@[simp] theorem State.handDrops_now (ds : List Drop) (s : State) : (s.handDrops ds).now = s.now := rfl
@[simp] theorem State.handDrops_stopLine (ds : List Drop) (s : State) : (s.handDrops ds).stopLine = s.stopLine := rfl
@[simp] theorem State.handDrops_gradientPin (ds : List Drop) (s : State) : (s.handDrops ds).gradientPin = s.gradientPin := rfl
@[simp] theorem State.handDrops_life (ds : List Drop) (s : State) : (s.handDrops ds).life = s.life := rfl
@[simp] theorem State.handDrops_node (ds : List Drop) (s : State) : (s.handDrops ds).node = s.node := rfl
@[simp] theorem State.handDrops_store (ds : List Drop) (s : State) : (s.handDrops ds).store = s.store := rfl
@[simp] theorem State.handDrops_conf (ds : List Drop) (s : State) : (s.handDrops ds).conf = s.conf := rfl
@[simp] theorem State.handDrops_table (ds : List Drop) (s : State) : (s.handDrops ds).table = s.table := rfl
@[simp] theorem State.handDrops_eval (ds : List Drop) (s : State) : (s.handDrops ds).eval = s.eval := rfl
@[simp] theorem State.handDrops_tally (ds : List Drop) (s : State) : (s.handDrops ds).tally = s.tally := rfl
@[simp] theorem State.handDrops_dli (ds : List Drop) (s : State) : (s.handDrops ds).dli = s.dli := rfl
@[simp] theorem State.handDrops_rounds (ds : List Drop) (s : State) : (s.handDrops ds).rounds = s.rounds := rfl
@[simp] theorem State.handDrops_conditions (ds : List Drop) (s : State) : (s.handDrops ds).conditions = s.conditions := rfl
@[simp] theorem State.handDrops_sensor (ds : List Drop) (s : State) : (s.handDrops ds).sensor = s.sensor := rfl
@[simp] theorem State.handDrops_listenDue (ds : List Drop) (s : State) : (s.handDrops ds).listenDue = s.listenDue := rfl
@[simp] theorem State.handDrops_retained (ds : List Drop) (s : State) : (s.handDrops ds).retained = s.retained := rfl
@[simp] theorem State.handDrops_out (ds : List Drop) (s : State) : (s.handDrops ds).out = s.out := rfl
@[simp] theorem State.handDrops_pending (ds : List Drop) (s : State) : (s.handDrops ds).pending = s.pending := rfl

@[simp] theorem State.reach_stopLine (due : Nat) (s : State) : (s.reach due).stopLine = s.stopLine := rfl
@[simp] theorem State.reach_gradientPin (due : Nat) (s : State) : (s.reach due).gradientPin = s.gradientPin := rfl
@[simp] theorem State.reach_life (due : Nat) (s : State) : (s.reach due).life = s.life := rfl
@[simp] theorem State.reach_node (due : Nat) (s : State) : (s.reach due).node = s.node := rfl
@[simp] theorem State.reach_store (due : Nat) (s : State) : (s.reach due).store = s.store := rfl
@[simp] theorem State.reach_conf (due : Nat) (s : State) : (s.reach due).conf = s.conf := rfl
@[simp] theorem State.reach_table (due : Nat) (s : State) : (s.reach due).table = s.table := rfl
@[simp] theorem State.reach_eval (due : Nat) (s : State) : (s.reach due).eval = s.eval := rfl
@[simp] theorem State.reach_tally (due : Nat) (s : State) : (s.reach due).tally = s.tally := rfl
@[simp] theorem State.reach_dli (due : Nat) (s : State) : (s.reach due).dli = s.dli := rfl
@[simp] theorem State.reach_rounds (due : Nat) (s : State) : (s.reach due).rounds = s.rounds := rfl
@[simp] theorem State.reach_conditions (due : Nat) (s : State) : (s.reach due).conditions = s.conditions := rfl
@[simp] theorem State.reach_sensor (due : Nat) (s : State) : (s.reach due).sensor = s.sensor := rfl
@[simp] theorem State.reach_listenDue (due : Nat) (s : State) : (s.reach due).listenDue = s.listenDue := rfl
@[simp] theorem State.reach_retained (due : Nat) (s : State) : (s.reach due).retained = s.retained := rfl
@[simp] theorem State.reach_out (due : Nat) (s : State) : (s.reach due).out = s.out := rfl
@[simp] theorem State.reach_handed (due : Nat) (s : State) : (s.reach due).handed = s.handed := rfl
@[simp] theorem State.reach_pending (due : Nat) (s : State) : (s.reach due).pending = s.pending := rfl

@[simp] theorem State.answer_now (a : Answer) (s : State) : (s.answer a).now = s.now := rfl
@[simp] theorem State.answer_stopLine (a : Answer) (s : State) : (s.answer a).stopLine = s.stopLine := rfl
@[simp] theorem State.answer_gradientPin (a : Answer) (s : State) : (s.answer a).gradientPin = s.gradientPin := rfl
@[simp] theorem State.answer_life (a : Answer) (s : State) : (s.answer a).life = s.life := rfl
@[simp] theorem State.answer_node (a : Answer) (s : State) : (s.answer a).node = s.node := rfl
@[simp] theorem State.answer_store (a : Answer) (s : State) : (s.answer a).store = s.store := rfl
@[simp] theorem State.answer_conf (a : Answer) (s : State) : (s.answer a).conf = s.conf := rfl
@[simp] theorem State.answer_table (a : Answer) (s : State) : (s.answer a).table = s.table := rfl
@[simp] theorem State.answer_eval (a : Answer) (s : State) : (s.answer a).eval = s.eval := rfl
@[simp] theorem State.answer_tally (a : Answer) (s : State) : (s.answer a).tally = s.tally := rfl
@[simp] theorem State.answer_dli (a : Answer) (s : State) : (s.answer a).dli = s.dli := rfl
@[simp] theorem State.answer_rounds (a : Answer) (s : State) : (s.answer a).rounds = s.rounds := rfl
@[simp] theorem State.answer_conditions (a : Answer) (s : State) : (s.answer a).conditions = s.conditions := rfl
@[simp] theorem State.answer_sensor (a : Answer) (s : State) : (s.answer a).sensor = s.sensor := rfl
@[simp] theorem State.answer_listenDue (a : Answer) (s : State) : (s.answer a).listenDue = s.listenDue := rfl
@[simp] theorem State.answer_retained (a : Answer) (s : State) : (s.answer a).retained = s.retained := rfl
@[simp] theorem State.answer_handed (a : Answer) (s : State) : (s.answer a).handed = s.handed := rfl
@[simp] theorem State.answer_pending (a : Answer) (s : State) : (s.answer a).pending = s.pending := rfl

@[simp] theorem State.dispose_now (b : Nat) (v : Verdict) (s : State) : (s.dispose b v).now = s.now := rfl
@[simp] theorem State.dispose_stopLine (b : Nat) (v : Verdict) (s : State) : (s.dispose b v).stopLine = s.stopLine := rfl
@[simp] theorem State.dispose_gradientPin (b : Nat) (v : Verdict) (s : State) : (s.dispose b v).gradientPin = s.gradientPin := rfl
@[simp] theorem State.dispose_life (b : Nat) (v : Verdict) (s : State) : (s.dispose b v).life = s.life := rfl
@[simp] theorem State.dispose_node (b : Nat) (v : Verdict) (s : State) : (s.dispose b v).node = s.node := rfl
@[simp] theorem State.dispose_store (b : Nat) (v : Verdict) (s : State) : (s.dispose b v).store = s.store := rfl
@[simp] theorem State.dispose_conf (b : Nat) (v : Verdict) (s : State) : (s.dispose b v).conf = s.conf := rfl
@[simp] theorem State.dispose_table (b : Nat) (v : Verdict) (s : State) : (s.dispose b v).table = s.table := rfl
@[simp] theorem State.dispose_eval (b : Nat) (v : Verdict) (s : State) : (s.dispose b v).eval = s.eval := rfl
@[simp] theorem State.dispose_tally (b : Nat) (v : Verdict) (s : State) : (s.dispose b v).tally = s.tally := rfl
@[simp] theorem State.dispose_dli (b : Nat) (v : Verdict) (s : State) : (s.dispose b v).dli = s.dli := rfl
@[simp] theorem State.dispose_rounds (b : Nat) (v : Verdict) (s : State) : (s.dispose b v).rounds = s.rounds := rfl
@[simp] theorem State.dispose_conditions (b : Nat) (v : Verdict) (s : State) : (s.dispose b v).conditions = s.conditions := rfl
@[simp] theorem State.dispose_sensor (b : Nat) (v : Verdict) (s : State) : (s.dispose b v).sensor = s.sensor := rfl
@[simp] theorem State.dispose_listenDue (b : Nat) (v : Verdict) (s : State) : (s.dispose b v).listenDue = s.listenDue := rfl
@[simp] theorem State.dispose_retained (b : Nat) (v : Verdict) (s : State) : (s.dispose b v).retained = s.retained := rfl
@[simp] theorem State.dispose_handed (b : Nat) (v : Verdict) (s : State) : (s.dispose b v).handed = s.handed := rfl
@[simp] theorem State.dispose_pending (b : Nat) (v : Verdict) (s : State) : (s.dispose b v).pending = s.pending := rfl

@[simp] theorem State.acknowledge_now (s : State) : (s.acknowledge).now = s.now := rfl
@[simp] theorem State.acknowledge_stopLine (s : State) : (s.acknowledge).stopLine = s.stopLine := rfl
@[simp] theorem State.acknowledge_gradientPin (s : State) : (s.acknowledge).gradientPin = s.gradientPin := rfl
@[simp] theorem State.acknowledge_life (s : State) : (s.acknowledge).life = s.life := rfl
@[simp] theorem State.acknowledge_node (s : State) : (s.acknowledge).node = s.node := rfl
@[simp] theorem State.acknowledge_store (s : State) : (s.acknowledge).store = s.store := rfl
@[simp] theorem State.acknowledge_conf (s : State) : (s.acknowledge).conf = s.conf := rfl
@[simp] theorem State.acknowledge_table (s : State) : (s.acknowledge).table = s.table := rfl
@[simp] theorem State.acknowledge_eval (s : State) : (s.acknowledge).eval = s.eval := rfl
@[simp] theorem State.acknowledge_tally (s : State) : (s.acknowledge).tally = s.tally := rfl
@[simp] theorem State.acknowledge_dli (s : State) : (s.acknowledge).dli = s.dli := rfl
@[simp] theorem State.acknowledge_rounds (s : State) : (s.acknowledge).rounds = s.rounds := rfl
@[simp] theorem State.acknowledge_conditions (s : State) : (s.acknowledge).conditions = s.conditions := rfl
@[simp] theorem State.acknowledge_sensor (s : State) : (s.acknowledge).sensor = s.sensor := rfl
@[simp] theorem State.acknowledge_listenDue (s : State) : (s.acknowledge).listenDue = s.listenDue := rfl
@[simp] theorem State.acknowledge_retained (s : State) : (s.acknowledge).retained = s.retained := rfl
@[simp] theorem State.acknowledge_handed (s : State) : (s.acknowledge).handed = s.handed := rfl
@[simp] theorem State.acknowledge_pending (s : State) : (s.acknowledge).pending = s.pending := rfl

@[simp] theorem State.carry_now (f : Frame) (s : State) : (s.carry f).now = s.now := rfl
@[simp] theorem State.carry_stopLine (f : Frame) (s : State) : (s.carry f).stopLine = s.stopLine := rfl
@[simp] theorem State.carry_gradientPin (f : Frame) (s : State) : (s.carry f).gradientPin = s.gradientPin := rfl
@[simp] theorem State.carry_life (f : Frame) (s : State) : (s.carry f).life = s.life := rfl
@[simp] theorem State.carry_node (f : Frame) (s : State) : (s.carry f).node = s.node := rfl
@[simp] theorem State.carry_store (f : Frame) (s : State) : (s.carry f).store = s.store := rfl
@[simp] theorem State.carry_conf (f : Frame) (s : State) : (s.carry f).conf = s.conf := rfl
@[simp] theorem State.carry_table (f : Frame) (s : State) : (s.carry f).table = s.table := rfl
@[simp] theorem State.carry_eval (f : Frame) (s : State) : (s.carry f).eval = s.eval := rfl
@[simp] theorem State.carry_tally (f : Frame) (s : State) : (s.carry f).tally = s.tally := rfl
@[simp] theorem State.carry_dli (f : Frame) (s : State) : (s.carry f).dli = s.dli := rfl
@[simp] theorem State.carry_rounds (f : Frame) (s : State) : (s.carry f).rounds = s.rounds := rfl
@[simp] theorem State.carry_conditions (f : Frame) (s : State) : (s.carry f).conditions = s.conditions := rfl
@[simp] theorem State.carry_sensor (f : Frame) (s : State) : (s.carry f).sensor = s.sensor := rfl
@[simp] theorem State.carry_listenDue (f : Frame) (s : State) : (s.carry f).listenDue = s.listenDue := rfl
@[simp] theorem State.carry_retained (f : Frame) (s : State) : (s.carry f).retained = s.retained := rfl
@[simp] theorem State.carry_handed (f : Frame) (s : State) : (s.carry f).handed = s.handed := rfl
@[simp] theorem State.carry_pending (f : Frame) (s : State) : (s.carry f).pending = s.pending := rfl

@[simp] theorem State.updateLane_now (n : Nat) (f : Lane → Lane) (s : State) : (s.updateLane n f).now = s.now := rfl
@[simp] theorem State.updateLane_stopLine (n : Nat) (f : Lane → Lane) (s : State) : (s.updateLane n f).stopLine = s.stopLine := rfl
@[simp] theorem State.updateLane_gradientPin (n : Nat) (f : Lane → Lane) (s : State) : (s.updateLane n f).gradientPin = s.gradientPin := rfl
@[simp] theorem State.updateLane_life (n : Nat) (f : Lane → Lane) (s : State) : (s.updateLane n f).life = s.life := rfl
@[simp] theorem State.updateLane_node (n : Nat) (f : Lane → Lane) (s : State) : (s.updateLane n f).node = s.node := rfl
@[simp] theorem State.updateLane_store (n : Nat) (f : Lane → Lane) (s : State) : (s.updateLane n f).store = s.store := rfl
@[simp] theorem State.updateLane_conf (n : Nat) (f : Lane → Lane) (s : State) : (s.updateLane n f).conf = s.conf := rfl
@[simp] theorem State.updateLane_eval (n : Nat) (f : Lane → Lane) (s : State) : (s.updateLane n f).eval = s.eval := rfl
@[simp] theorem State.updateLane_tally (n : Nat) (f : Lane → Lane) (s : State) : (s.updateLane n f).tally = s.tally := rfl
@[simp] theorem State.updateLane_dli (n : Nat) (f : Lane → Lane) (s : State) : (s.updateLane n f).dli = s.dli := rfl
@[simp] theorem State.updateLane_rounds (n : Nat) (f : Lane → Lane) (s : State) : (s.updateLane n f).rounds = s.rounds := rfl
@[simp] theorem State.updateLane_conditions (n : Nat) (f : Lane → Lane) (s : State) : (s.updateLane n f).conditions = s.conditions := rfl
@[simp] theorem State.updateLane_sensor (n : Nat) (f : Lane → Lane) (s : State) : (s.updateLane n f).sensor = s.sensor := rfl
@[simp] theorem State.updateLane_listenDue (n : Nat) (f : Lane → Lane) (s : State) : (s.updateLane n f).listenDue = s.listenDue := rfl
@[simp] theorem State.updateLane_retained (n : Nat) (f : Lane → Lane) (s : State) : (s.updateLane n f).retained = s.retained := rfl
@[simp] theorem State.updateLane_out (n : Nat) (f : Lane → Lane) (s : State) : (s.updateLane n f).out = s.out := rfl
@[simp] theorem State.updateLane_handed (n : Nat) (f : Lane → Lane) (s : State) : (s.updateLane n f).handed = s.handed := rfl
@[simp] theorem State.updateLane_pending (n : Nat) (f : Lane → Lane) (s : State) : (s.updateLane n f).pending = s.pending := rfl

end Sys2Proof.Machine
end

