-- ==== Sys2Proof/Laws/Ops.lean ====
section
/-! SUPPORT. What each shared operation can change and what it leaves: one frame per operation, and the
outcome of those with cases. A frame says that the operation's result, with the named fields put back,
is the state it started from. -/

namespace Sys2Proof.Machine

open Sys2Proof

/-! ## Messages and records -/

/-- What is taken of a row is the row's own bytes with their check word, and nothing else (R162). -/
theorem messageAgrees_iff (row : List Byte) (k : RxCheck) :
    messageAgrees row k = true ↔ k = { word := checkWord row } := by
  rw [messageAgrees, Bool.and_eq_true, decide_eq_true_iff, decide_eq_true_iff]
  obtain ⟨w, f⟩ := k
  cases f <;> simp [RxCheck.contents]

/-! ## Conditions -/

theorem State.raise_frame (code : Code) (lane : Option Nat) (s : State) :
    { s.raise code lane with conditions := s.conditions } = s := rfl

theorem State.clear_frame (code : Code) (lane : Option Nat) (s : State) :
    { s.clear code lane with conditions := s.conditions } = s := rfl

/-- Some entry of a condition list that is not empty has the lowest level (R165). -/
theorem lowestLevel_attained {cs : List Condition} (h : cs ≠ []) :
    ∃ c ∈ cs, c.code.level = lowestLevel cs := by
  have fold : ∀ (l : List Condition) (m : Nat),
      (∃ c ∈ l, c.code.level = l.foldl (fun m c => min m c.code.level) m) ∨
        (l.foldl (fun m c => min m c.code.level) m = m ∧ ∀ c ∈ l, m ≤ c.code.level) := by
    intro l
    induction l with
    | nil => intro m; exact .inr ⟨rfl, fun _ h => by cases h⟩
    | cons a l ih =>
      intro m
      simp only [List.foldl_cons]
      rcases ih (min m a.code.level) with ⟨c, hc, he⟩ | ⟨he, hall⟩
      · exact .inl ⟨c, List.mem_cons_of_mem _ hc, he⟩
      · rcases Nat.lt_or_ge a.code.level m with hlt | hge
        · exact .inl ⟨a, List.mem_cons_self, by rw [he]; omega⟩
        · refine .inr ⟨by rw [he]; omega, ?_⟩
          intro c hc
          rcases List.mem_cons.1 hc with rfl | hc
          · exact hge
          · have := hall c hc; omega
  rcases fold cs 7 with hx | ⟨he, hall⟩
  · exact hx
  · obtain ⟨c, hc⟩ := List.exists_mem_of_ne_nil _ h
    have h7 : c.code.level ≤ 7 := by cases c.code <;> decide
    have := hall c hc
    exact ⟨c, hc, by unfold lowestLevel; omega⟩

/-- A raising keeps the condition list within its 16 entries (R164, R165). -/
theorem raiseCondition_length_le {now : Nat} {code : Code} {lane : Option Nat} {cs : List Condition}
    (h : cs.length ≤ Config.maxConditions) :
    (raiseCondition now code lane cs).length ≤ Config.maxConditions := by
  unfold raiseCondition
  split
  · simpa using h
  · dsimp only
    split
    · rw [List.length_append]; simp only [List.length_cons, List.length_nil]; omega
    · split
      · have hne : cs ≠ [] := by rintro rfl; simp [Config.maxConditions] at *
        obtain ⟨c, hc, he⟩ := lowestLevel_attained hne
        rw [List.length_append, List.length_eraseP_of_mem hc (by simpa using he)]
        have := List.length_pos_of_mem hc
        simp only [List.length_cons, List.length_nil]; omega
      · exact h

/-! ## The Deck Line Interface -/

/-- A frame handed in is discarded in SILENT and queued, replaced or refused in NORMAL (R151 to R153, R160). -/
theorem State.handIn_cases (p : Payload) (s : State) :
    (s.dli.line = .silent ∧ s.handIn p = s.handDrops p.dropReport) ∨
    (s.dli.line = .normal ∧
      s.handIn p =
        (s.setDli (s.dli.handInNormal s.tally.callNumber p).1).handDrops
          (s.dli.handInNormal s.tally.callNumber p).2) := by
  unfold State.handIn
  split
  · exact .inl ⟨‹_›, rfl⟩
  · exact .inr ⟨‹_›, rfl⟩

theorem State.handIn_frame (p : Payload) (s : State) :
    { s.handIn p with dli := s.dli, handed := s.handed } = s := by
  rcases s.handIn_cases p with ⟨_, h⟩ | ⟨_, h⟩ <;> rw [h] <;> rfl

theorem State.removeOffer_frame (r : RoundId) (s : State) :
    { s.removeOffer r with dli := s.dli } = s := rfl

theorem State.removeCall_frame (r : RoundId) (s : State) :
    { s.removeCall r with dli := s.dli } = s := rfl

theorem State.enqueueProbe_frame (p : Payload) (s : State) :
    { s.enqueueProbe p with dli := s.dli } = s := rfl

/-- A frame put in at its place is one of the queue, and the others stay (R151). -/
theorem enqueue_perm (f : QFrame) (q : List QFrame) : (enqueue f q).Perm (f :: q) := by
  induction q with
  | nil => exact List.Perm.refl _
  | cons g q ih =>
    unfold enqueue
    split
    · exact List.Perm.refl _
    · exact (ih.cons g).trans (List.Perm.swap f g q)

@[simp] theorem enqueue_length (f : QFrame) (q : List QFrame) :
    (enqueue f q).length = q.length + 1 := by
  simpa using (enqueue_perm f q).length_eq

/-- Taking frames out does not lengthen the queue (R153, R154). -/
theorem Dli.takeOut_length_le (sel : Payload → Bool) (d : Dli) :
    (d.takeOut sel).queue.length ≤ d.queue.length := List.length_filterMap_le _ _

/-! ## The Tally Unit -/

theorem State.buildTally_frame (s : State) :
    { s.buildTally with tally := s.tally, dli := s.dli, handed := s.handed } = s := by
  have h := s.countBuild.handIn_frame (.tally (s.countBuild.tallyPayload s.countBuild.tally.seq))
  unfold State.buildTally
  generalize s.countBuild.handIn _ = t at h ⊢
  have h2 := congrArg (fun u : State => { u with tally := s.tally, dli := s.dli, handed := s.handed }) h
  exact h2

/-- A cause of a TALLY builds one at once, or sets the pending change (R140). -/
theorem State.causeTally_cases (s : State) :
    (s.dli.line = .normal ∧ s.spacingOver = true ∧ s.causeTally = s.buildTally) ∨
    (¬ (s.dli.line = .normal ∧ s.spacingOver = true) ∧
      s.causeTally = s.setTally { s.tally with pendingChange := true }) := by
  unfold State.causeTally
  split
  · exact .inl ⟨(‹_ ∧ _› : _).1, (‹_ ∧ _› : _).2, rfl⟩
  · exact .inr ⟨‹_›, rfl⟩

theorem State.causeTally_frame (s : State) :
    { s.causeTally with tally := s.tally, dli := s.dli, handed := s.handed } = s := by
  rcases s.causeTally_cases with ⟨_, _, h⟩ | ⟨_, h⟩ <;> rw [h]
  · exact s.buildTally_frame
  · rfl

/-! ## The Call Evaluator -/

/-- An IDLE evaluator takes the first CALL whose deadline has not passed, and a busy one takes none
(R64, R69, R70). -/
theorem State.takeNextCall_cases (s : State) :
    (∃ v, s.eval.inFlight = some v ∧ s.takeNextCall = s) ∨
    (s.eval.inFlight = none ∧ liveCalls s.now s.eval.callQueue = [] ∧
      s.takeNextCall = s.setEval { s.eval with callQueue := [] }) ∨
    (∃ c rest, s.eval.inFlight = none ∧ liveCalls s.now s.eval.callQueue = c :: rest ∧
      s.takeNextCall =
        (s.setEval { s.eval with
          callQueue := rest
          inFlight := some { call := c, snapshot := s.snapshot, restarts := 0 } }).setHanded
            { s.handed with restart := false }) := by
  unfold State.takeNextCall
  split
  · exact .inl ⟨_, ‹_›, rfl⟩
  · split
    · exact .inr (.inl ⟨‹_›, ‹_›, rfl⟩)
    · exact .inr (.inr ⟨_, _, ‹_›, ‹_›, rfl⟩)

theorem State.takeNextCall_frame (s : State) :
    { s.takeNextCall with eval := s.eval, handed := s.handed } = s := by
  rcases s.takeNextCall_cases with ⟨_, _, h⟩ | ⟨_, _, h⟩ | ⟨_, _, _, _, h⟩ <;> rw [h] <;> rfl

/-- A restart takes a new snapshot for the same CALL (R72). -/
theorem State.restartEvaluation_eq (s : State) :
    s.restartEvaluation = s.setEval { s.eval with
      inFlight := s.eval.inFlight.map fun v =>
        { v with snapshot := s.snapshot, restarts := v.restarts + 1 } } := by
  unfold State.restartEvaluation
  split
  · rename_i h; rw [h]; simp only [State.setEval, Option.map_none]; rw [← h]
  · rename_i h; rw [h]; rfl

theorem State.restartEvaluation_frame (s : State) :
    { s.restartEvaluation with eval := s.eval } = s := by
  rw [s.restartEvaluation_eq]; rfl

/-- A settled restart is a restart where one was handed on, and nothing stays to be restarted (R72). -/
theorem State.settleRestart_cases (s : State) :
    (s.handed.restart = true ∧
      s.settleRestart = s.restartEvaluation.setHanded { s.handed with restart := false }) ∨
    (s.handed.restart = false ∧ s.settleRestart = s) := by
  unfold State.settleRestart
  cases h : s.handed.restart <;> simp

@[simp] theorem State.settleRestart_handed (s : State) :
    s.settleRestart.handed = { s.handed with restart := false } := by
  rcases s.settleRestart_cases with ⟨_, h⟩ | ⟨hr, h⟩ <;> rw [h]
  · rfl
  · rw [← hr]

theorem State.settleRestart_frame (s : State) :
    { s.settleRestart with eval := s.eval, handed := s.handed } = s := by
  rcases s.settleRestart_cases with ⟨_, h⟩ | ⟨_, h⟩ <;> rw [h]
  rw [s.restartEvaluation_eq]
  rfl

theorem State.followCongestion_frame (s : State) :
    { s.followCongestion with eval := s.eval, handed := s.handed } = s := by
  unfold State.followCongestion
  simp only
  split
  · rfl
  · split <;> rfl

/-! ## Releases -/

/-- A release takes the round's reservations out of the table, whether or not one was held (R89). -/
theorem State.releaseRound_table (r : RoundId) (s : State) :
    (s.releaseRound r).table =
      { s.table with
        reservations := s.table.reservations.filter fun x => decide (x.round ≠ r) } := by
  unfold State.releaseRound
  split
  · rfl
  · rename_i h
    have : s.table.reservations.filter (fun x => decide (x.round ≠ r)) = s.table.reservations := by
      rw [List.filter_eq_self]
      intro x hx
      have := fun e => h (List.any_eq_true.2 ⟨x, hx, e⟩)
      simpa using this
    rw [this]

theorem State.releaseRound_frame (r : RoundId) (s : State) :
    { s.releaseRound r with table := s.table, dli := s.dli, handed := s.handed } = s := by
  unfold State.releaseRound
  split <;> rfl

theorem State.foldl_release_frame (rs : List RoundId) (s : State) :
    { rs.foldl (fun st r => st.releaseRound r) s with
      table := s.table, dli := s.dli, handed := s.handed } = s := by
  induction rs generalizing s with
  | nil => rfl
  | cons r rs ih =>
    have h := ih (s.releaseRound r)
    have h1 := s.releaseRound_frame r
    simp only [List.foldl_cons]
    generalize rs.foldl (fun st r => st.releaseRound r) (s.releaseRound r) = t at h ⊢
    have h2 := congrArg
      (fun u : State => { u with table := s.table, dli := s.dli, handed := s.handed }) h
    exact h2.trans h1

theorem State.releaseAll_frame (s : State) :
    { s.releaseAll with table := s.table, dli := s.dli, handed := s.handed } = s :=
  s.foldl_release_frame _

/-- After the release of some rounds, what is left is of other rounds, and lanes and inbound stand (R89). -/
theorem State.foldl_release_table (rs : List RoundId) (s : State) :
    (rs.foldl (fun st r => st.releaseRound r) s).table =
      { s.table with
        reservations := s.table.reservations.filter fun x => !(rs.contains x.round) } := by
  induction rs generalizing s with
  | nil => simp
  | cons r rs ih =>
    simp only [List.foldl_cons, ih, State.releaseRound_table, List.filter_filter]
    congr 1
    apply List.filter_congr
    intro x _
    by_cases h : x.round = r <;> simp [h]

/-- The release of everything leaves no reservation (R159, R170, R172). -/
@[simp] theorem State.releaseAll_reservations (s : State) : s.releaseAll.table.reservations = [] := by
  unfold State.releaseAll
  rw [State.foldl_release_table]
  simp only [List.filter_eq_nil_iff]
  intro x hx
  simp only [Bool.not_eq_eq_eq_not, Bool.not_true, Bool.not_eq_false,
    List.contains_iff_mem, List.mem_map]
  exact ⟨x, hx, rfl⟩

/-! ## The call number -/

theorem State.foldl_raise_frame (code : Code) (ns : List Nat) (s : State) :
    { ns.foldl (fun st n => st.raise code (some n)) s with conditions := s.conditions } = s := by
  induction ns generalizing s with
  | nil => rfl
  | cons n ns ih =>
    have h := ih (s.raise code (some n))
    simp only [List.foldl_cons]
    generalize ns.foldl (fun st n => st.raise code (some n)) (s.raise code (some n)) = t at h ⊢
    exact congrArg (fun u : State => { u with conditions := s.conditions }) h

theorem State.portAdvance_frame (s : State) :
    { s.portAdvance with conditions := s.conditions, table := s.table, eval := s.eval } = s := by
  have h := s.foldl_raise_frame .overcarried s.table.overcarriedLanes
  unfold State.portAdvance
  generalize s.table.overcarriedLanes.foldl _ s = t at h ⊢
  exact congrArg (fun u : State => { u with table := s.table, eval := s.eval }) h

theorem State.portAdvances_frame (d : Nat) (s : State) :
    { s.portAdvances d with conditions := s.conditions, table := s.table, eval := s.eval } = s := by
  induction d generalizing s with
  | zero => rfl
  | succ d ih =>
    have h := ih s.portAdvance
    unfold State.portAdvances
    generalize s.portAdvance.portAdvances d = t at h ⊢
    have h2 := congrArg (fun u : State =>
      { u with conditions := s.conditions, table := s.table, eval := s.eval }) h
    exact h2.trans s.portAdvance_frame

/-- What a catch-up can change (R145, R147). -/
theorem State.catchUp_frame (c : Byte) (s : State) :
    { s.catchUp c with
      tally := s.tally, table := s.table, eval := s.eval, conditions := s.conditions
      handed := s.handed } = s := by
  unfold State.catchUp
  split
  · simp only
    split
    · have h := s.portAdvances_frame (c - s.tally.callNumber).toNat
      generalize s.portAdvances (c - s.tally.callNumber).toNat = t at h ⊢
      exact congrArg (fun u : State => { u with tally := s.tally, handed := s.handed }) h
    · rfl
  · rfl

/-! ## The Round Controller -/

theorem State.startWindow_frame (r : RoundId) (s : State) :
    { s.startWindow r with rounds := s.rounds } = s := by
  unfold State.startWindow
  split
  · rfl
  · split <;> rfl

theorem State.cancelDispatched_frame (r : RoundId) (bay : Byte) (reason : CancelReason) (s : State) :
    { s.cancelDispatched r bay reason with
      rounds := s.rounds, out := s.out, handed := s.handed } = s := by
  unfold State.cancelDispatched
  cases s.rounds.dispatched.find? (DispatchedEntry.isFor r bay) with
  | none => rfl
  | some d =>
    dsimp only
    split <;> simp [State.dispose, State.followHold, State.handLook]

theorem State.settleDrop_frame (d : Drop) (s : State) :
    { s.settleDrop d with rounds := s.rounds, out := s.out, handed := s.handed } = s := by
  cases d with
  | call r =>
    have h := s.startWindow_frame r
    unfold State.settleDrop
    dsimp only
    generalize s.startWindow r = t at h ⊢
    exact congrArg (fun u : State => { u with out := s.out, handed := s.handed }) h
  | award r bay => exact s.cancelDispatched_frame r bay .unsent

theorem State.settleDrops_frame (s : State) :
    { s.settleDrops with rounds := s.rounds, out := s.out, handed := s.handed } = s := by
  have key : ∀ (ds : List Drop) (u : State),
      { ds.foldl State.settleDrop u with
        rounds := u.rounds, out := u.out, handed := u.handed } = u := by
    intro ds
    induction ds with
    | nil => intro u; rfl
    | cons d ds ih =>
      intro u
      have h := ih (u.settleDrop d)
      simp only [List.foldl_cons]
      generalize ds.foldl State.settleDrop (u.settleDrop d) = t at h ⊢
      have h2 := congrArg (fun w : State =>
        { w with rounds := u.rounds, out := u.out, handed := u.handed }) h
      exact h2.trans (u.settleDrop_frame d)
  have h := key s.handed.drops (s.setHanded { s.handed with drops := [] })
  unfold State.settleDrops
  generalize s.handed.drops.foldl State.settleDrop _ = t at h ⊢
  exact congrArg (fun w : State => { w with handed := s.handed }) h

theorem State.lookForCallable_frame (s : State) :
    { s.lookForCallable with rounds := s.rounds, dli := s.dli, handed := s.handed } = s := by
  unfold State.lookForCallable
  split
  · split
    · rfl
    · rename_i w _
      unfold State.openRoundFor
      simp only
      generalize hu : ((s.setRounds _).handNode) = u
      have h := u.handIn_frame (.call
        { round := { ramp := BitVec.ofNat 8 s.conf.rampId, seq := s.rounds.seq + 1 }
          deckMask := s.conf.deckMask
          window := BitVec.ofNat 8 (s.conf.offerWindow / 10)
          arrival := w.arrival.toWire })
      generalize u.handIn _ = t at h ⊢
      subst hu
      exact congrArg (fun w : State =>
        { w with rounds := s.rounds, dli := s.dli, handed := s.handed }) h
  · rfl

/-! ## The end of an event -/

theorem State.beginCopyWrites_frame (s : State) :
    { s.beginCopyWrites with retained := s.retained } = s := by
  unfold State.beginCopyWrites
  split <;> rfl

@[simp] theorem State.finish_handed (s : State) : s.finish.handed = HandedOn.clear := rfl

/-- An event with nothing to hand on ends as it stands. -/
theorem State.finish_of_clear {s : State} (h : s.handed = HandedOn.clear) : s.finish = s := by
  obtain ⟨now, stopLine, gradientPin, life, node, store, conf, table, eval, tally, dli, rounds,
    conditions, sensor, listenDue, retained, out, handed, pending⟩ := s
  subst h
  simp [State.finish, State.settleDrops, State.lookIfAsked, State.restartIfAsked, State.tallyIfAsked,
    State.beginCopyWrites, HandedOn.clear, State.setHanded, State.setRetained]

/-- A command whose own effect hands nothing on is that effect. -/
theorem State.event_of_clear {f : State → State} {s : State}
    (h : (f (s.setHanded HandedOn.clear)).handed = HandedOn.clear) :
    s.event f = f (s.setHanded HandedOn.clear) := State.finish_of_clear h

/-! ## Steps -/

/-- A step with a command waiting runs it with the rest of the queue. -/
theorem step_cons {s : State} {c : Instr} {rest : List Instr} (h : s.pending = c :: rest) :
    step s = exec c (s.setPending rest) := by
  unfold step; rw [h]

/-- A step with no command waiting counts one millisecond (log entry 1). -/
theorem step_nil {s : State} (h : s.pending = []) : step s = .next s.tick := by
  unfold step; rw [h]

end Sys2Proof.Machine
end

