-- ==== Sys2Proof/Tests/Slice0.lean ====
section
/-! SUPPORT. The model's own tests: ill-formed commands that `Instr.wf` refuses, the spec's worked
examples, and for each statement of Certificates/Slice0/Obligations.lean that has hypotheses a witness
that meets them together, clause by clause. Expected values of the worked examples are the spec's. -/

namespace Sys2Proof.Tests

open Sys2Proof Sys2Proof.Machine

/-! ## Well-formedness: each check refuses an ill-formed command -/

/-- A rival of a class above 4, or of a source that is no node number, is refused. -/
theorem test_wf_refuses_rivals :
    (Instr.transmitStart [{ cls := 5, source := 12 }]).wf = false ∧
    (Instr.transmitStart [{ cls := 4, source := 49 }]).wf = false ∧
    (Instr.transmitStart [{ cls := 4, source := 48 }, { cls := 0, source := 60 }]).wf = true := by decide

/-- A round of a ramp id above 3 is refused. -/
theorem test_wf_refuses_round :
    (Instr.reservationExpiry { ramp := 4, seq := 0 }).wf = false ∧
    (Instr.deadlineExpiry { ramp := 4, seq := 0 }).wf = false ∧
    (Instr.reservationExpiry { ramp := 3, seq := 255 }).wf = true := by decide

/-- Booking 0 and bookings of more than 40 bits are refused. -/
theorem test_wf_refuses_bookings :
    (Instr.notBeforeTimePasses 0).wf = false ∧ (Instr.travelTimerExpiry 0).wf = false ∧
    (Instr.lashTimerExpiry (2 ^ 40)).wf = false ∧ (Instr.lashTimerExpiry (2 ^ 40 - 1)).wf = true := by
  decide

/-- Bay numbers outside 1..48 are refused. -/
theorem test_wf_refuses_bays :
    (Instr.peerEntryStale 0).wf = false ∧ (Instr.peerEntryStale 49).wf = false ∧
    (Instr.peerEntryStale 48).wf = true := by decide

/-- A frame given as bytes is refused when the bytes spell a row, or are not as many as the length byte
says; an unknown kind, an unknown NOTICE subtype and a payload of another size are accepted. -/
theorem test_wf_refuses_forms :
    let given (length kind : Byte) (payload : List Byte) : Bool :=
      (Instr.portcall
        { cls := 0, source := 60, callNumber := 0, length := length, check := 0
          form := .other kind payload } 0).wf
    given 1 8 [3] = false ∧ given 2 9 [3] = false ∧ given 1 9 [3] = true ∧ given 1 7 [3] = true ∧
    given 1 7 [1] = false ∧ given 2 8 [3, 3] = true := by decide

/-- A message or record given as bytes is refused when the bytes spell a row of its line; an unknown code, a
length that is not its code's, and a code of the other direction are accepted. -/
theorem test_wf_refuses_messages :
    let message (bytes : List Byte) : Bool := (Instr.surveyEnd { word := 0, form := .other bytes }).wf
    let record (w : ArrivalWire) (bytes : List Byte) : Bool :=
      (Instr.arrival w { word := 0, form := .other bytes }).wf
    message [1, 0, 0, 40] = false ∧ message [3, 0] = false ∧ message [6] = false ∧
    message [1, 0, 40] = true ∧ message [6, 0] = true ∧ message [9] = true ∧ message [7] = true ∧
    message [] = true ∧
    ∀ w : ArrivalWire, record w (List.replicate 17 1) = false ∧ record w (List.replicate 16 1) = true ∧
      record w (List.replicate 14 2) = true := by
  refine ⟨by decide, by decide, by decide, by decide, by decide, by decide, by decide, by decide, fun _ => ?_⟩
  exact ⟨rfl, rfl, rfl⟩

/-- A copy of a lane number above 7 is refused. -/
theorem test_wf_refuses_copy :
    (Instr.copyWriteCompletion (.lane 8)).wf = false ∧
    (Instr.copyWriteCompletion (.lane 7)).wf = true := by decide

/-- No row of the table gives bits, so no word spells a command. -/
theorem test_no_word_spells_a_command : decodeTableWord 0 0 = none := by decide

/-! ## Helpers: small states -/

/-- A lane's configuration. -/
def laneConf (n : Nat) (length y xf : Int) (sockets : Nat) : LaneConf :=
  { number := n, length := length, y := y, xf := xf, axle := 150, sockets := sockets, matchSet := []
    careSet := [], firstState := .opened }

/-- A lane whose U and sockets in use are those of its placed list. -/
def laneOf (c : LaneConf) (st : LaneState) (rs : List Record) : Lane :=
  { number := c.number, conf := c, stored := st, suspect := false, placed := rs
    used := extentSum 4 rs, sockets := grantedCount rs }

/-- An arrival. -/
def arr (b : Nat) (length weight : Int) (rank : Nat) : Arrival :=
  { booking := b, kind := .named .car, length := length, width := 20, height := 20, weight := weight
    axle := 10, hazard := .none, reefer := false, overstow := false, clamped := false, rank := rank }

/-- A placed record. -/
def rec (b : Nat) (length weight : Int) (rank : Nat) (front : Int) : Record :=
  { booking := some b, kind := some .trailer, length := length, weight := weight, axle := some 90
    hazard := none, reefer := false, granted := false, rank := some rank, front := front
    status := .lashed, flags := [], round := none, lashDue := none }

/-- A round id. -/
def rid (ramp seq : Byte) : RoundId := { ramp := ramp, seq := seq }

/-- An inbound entry. -/
def entry (r : RoundId) (lane : Nat) (a : Arrival) (front centre : Int) (due : Nat) : Inbound :=
  { round := r, lane := lane, arrival := a, front := front, centre := centre, travelDue := some due
    interrupted := false }

/-- A retained copy that holds a state's lists and numbers, no write in flight. -/
def copied (s : State) : Retained :=
  { lanes := (List.range 8).map fun n =>
      { number := n
        part := { kept := (match s.table.lane? n with
                    | some l => Kept.valid l.copy
                    | none => Kept.blank)
                  writing := none, further := false } }
    inbound := { kept := .valid s.inboundCopy, writing := none, further := false }
    node := { NodePart.blank with slotA := .valid s.nodeCopy }
    stopped := false }

/-- An ACTIVE bay with given lanes, inbound entries and reservations, its own sums and retained copy
agreeing. -/
def bayWith (c : Conf) (ls : List Lane) (es : List Inbound) (rs : List Reservation) : State :=
  let t : LaneTable := { lanes := ls, reservations := rs, inbound := es }
  let s : State := { State.reset with
    life := .running, node := .active, conf := { c with lanes := ls.map (·.conf) }, table := t
    tally := { TallyUnit.initial with ownT := t.sumT, ownL := t.sumL, pendingChange := false
                                      lastBuild := some 0 } }
  { s with retained := copied s }

/-- What a command's next state satisfies. -/
def after (c : Instr) (s : State) (p : State → Bool) : Bool :=
  match exec c s with
  | .next t => p t
  | .fault _ => false
  | .refused _ => false

/-- The next state of a command that has one, and otherwise the state itself. -/
def then_ (c : Instr) (s : State) : State :=
  match exec c s with
  | .next t => t
  | .fault _ => s
  | .refused _ => s

/-- ENTER with its check word. -/
def enterMsg (lane : Byte) (m : Word16) : Instr := .enter lane m { word := checkWord ([1, lane] ++ bytes2 m) }
/-- LEAVE with its check word. -/
def leaveMsg (lane : Byte) (m : Word16) : Instr := .leave lane m { word := checkWord ([2, lane] ++ bytes2 m) }
/-- LEVEL with its check word. -/
def levelMsg (lane : Byte) (m : Word16) : Instr := .level lane m { word := checkWord ([5, lane] ++ bytes2 m) }

/-- A frame's header with its check word. -/
def header (source callNumber : Byte) (p : Payload) : RxHeader :=
  let h : RxHeader :=
    { cls := BitVec.ofNat 8 p.cls, source := source, callNumber := callNumber
      length := BitVec.ofNat 8 p.length, check := 0 }
  { h with check := checkWord (receivedBytes h p) }

/-- The check word over a message or record given as bytes. -/
def oddCheck (bytes : List Byte) : RxCheck := { word := checkWord bytes, form := .other bytes }

/-- A header with its check word over a frame given as bytes. -/
def oddHeader (kind : Byte) (payload : List Byte) : RxHeader :=
  let h : RxHeader :=
    { cls := 4, source := 60, callNumber := 3, length := BitVec.ofNat 8 payload.length, check := 0
      form := .other kind payload }
  { h with check := checkWord (receivedBytes h (.portcall 0)) }

/-! ## The spec's worked examples -/

/-- The check word of the nine bytes 31 to 39 is 29B1 (09, R163). -/
theorem test_check_word :
    checkWord [0x31, 0x32, 0x33, 0x34, 0x35, 0x36, 0x37, 0x38, 0x39] = 0x29B1 := by decide +kernel

/-- The conversions of 03, Section 3.1 and case 1 (R46). -/
theorem test_conv :
    conv 12780 = 128 ∧ conv (-12780) = -128 ∧ conv (-18450) = -185 ∧ conv 184640 = 1846 ∧
    conv (-7952) = -80 ∧ conv (-59072) = -591 := by decide

/-- The planning list of one lane (01, Section 1.5): P 393, free 207, centre −141. -/
theorem test_planning_list :
    let c := laneConf 3 600 0 320 0
    let l := (laneOf c .opened [rec 40117 136 280 2 0, rec 40122 136 280 2 140]).snap
    let st : Stowage :=
      { lanes := [l]
        reservations :=
          [{ round := rid 0 58, lane := 3, arrival := arr 7 60 20 1, front := 329, centre := 0
             expiry := 0 }]
        inbound := [entry (rid 1 31) 3 (arr 6 45 15 2) 280 0 0] }
    l.used = 280 ∧ st.planned 4 l = 393 ∧ st.free 4 l = 207 ∧
    st.predictedCentre 4 l 136 = -141 ∧ (st.planningTail l).bind PlanItem.rank = some 1 ∧
    st.held l = false ∧ st.full 4 l = false := by decide +kernel

/-- The configuration of bay 7 of the scoring cases (03, Section 3.12). -/
def bay7 : Conf :=
  { Conf.blank with
    nodeNumber := 7, mtLim := 2000, mlMin := -40000, mlMax := 40000, scanOrder := [5, 3] }

/-- The lanes of bay 7 in case 1. -/
def bay7Stowage : Stowage :=
  { lanes :=
      [(laneOf (laneConf 3 600 45 320 0) .opened [rec 1 136 280 2 0, rec 2 136 300 2 140]).snap,
       (laneOf (laneConf 5 600 (-45) 320 0) .opened
         [rec 3 136 290 3 0, rec 4 136 270 3 140, rec 5 136 310 3 280, rec 6 36 120 3 420]).snap]
    reservations := [], inbound := [] }

/-- Case 1: lane 5 scores 193 and lane 3, with front 280 and centre −28, wins with 196. -/
theorem test_scoring_case_1 :
    let snap : Snapshot := { stowage := bay7Stowage, st := -310, sl := 15400 }
    (candidates bay7 snap (arr 9 136 284 2)).map (fun x => (x.lane, x.score)) = [(5, 193), (3, 196)] ∧
    chooseLane bay7 snap (arr 9 136 284 2) =
      some { lane := 3, front := 280, centre := -28, score := 196 } := by decide +kernel

/-- Case 2, the heel check off (MTlim 0): 202 for lane 3 and 208 for lane 5. -/
theorem test_scoring_case_2 :
    (candidates { bay7 with mtLim := 0 } { stowage := bay7Stowage, st := -310, sl := 15400 }
      (arr 9 136 284 2)).map (fun x => (x.lane, x.score)) = [(5, 208), (3, 202)] := by decide +kernel

/-- Cases 3 and 4: a heel limit of 400 leaves lane 3 alone with 172; weights all zero give 194 and 200. -/
theorem test_scoring_cases_3_4 :
    let snap : Snapshot := { stowage := bay7Stowage, st := -310, sl := 15400 }
    let scores (c : Conf) := (candidates c snap (arr 9 136 284 2)).map fun x => (x.lane, x.score)
    scores { bay7 with mtLim := 400 } = [(3, 172)] ∧
    scores { bay7 with wF := 0, wD := 0, wH := 0 } = [(5, 194), (3, 200)] := by decide +kernel

/-- One call against a bay of six lanes (02, Section 2.5): lane 1 alone is eligible; after the release of
the round 1/77 reservation lanes 1 and 2 are, and with equal scores the scan order decides (case 5). -/
theorem test_eligibility_of_bay_12 :
    let lane (n : Nat) (length y : Int) (k : Nat) : LaneConf := laneConf n length y 100 k
    let group (g : Group) (r : Record) : Record := { r with hazard := some g }
    let socket (r : Record) : Record := { r with reefer := true, granted := true }
    let ls : List Lane :=
      [laneOf { lane 0 500 (-90) 0 with axle := 200, careSet := [.hazard] } .opened [],
       laneOf { lane 1 600 (-54) 4 with careSet := [.car, .unacc], matchSet := [.unacc] } .opened
         [rec 1 136 280 2 0, socket (rec 2 136 290 2 140)],
       laneOf (lane 2 600 (-18) 2) .opened [group .b (rec 3 160 250 1 0), rec 4 136 270 2 164],
       laneOf (lane 3 600 18 2) .closed [rec 5 240 520 3 0],
       laneOf { lane 4 400 54 1 with axle := 90 } .opened [],
       laneOf (lane 5 600 90 2) .opened [rec 6 136 300 4 0]]
    let r : Reservation :=
      { round := rid 1 77, lane := 3
        arrival := { arr 8 120 200 2 with hazard := .group .a }, front := 244, centre := 0, expiry := 0 }
    let a : Arrival :=
      { booking := 51730, kind := .named .trailer, length := 136, width := 25, height := 40
        weight := 310, axle := 95, hazard := .group .c, reefer := true, overstow := false
        clamped := false, rank := 2 }
    let c : Conf := { Conf.blank with
      nodeNumber := 12, bayWeightLimit := 6000, mtLim := 2000, mlMin := -30000, mlMax := 30000
      scanOrder := [0, 1, 2, 3, 4, 5] }
    let snap (rs : List Reservation) : Snapshot :=
      { stowage := { lanes := ls.map Lane.snap, reservations := rs, inbound := [] }, st := 1900
        sl := 5000 }
    (candidates c (snap [r]) a).map (fun x => (x.lane, x.front, x.centre)) = [(1, 280, -248)] ∧
    (candidates c (snap []) a).map (fun x => (x.lane, x.score)) = [(1, 146), (2, 146)] ∧
    (chooseLane c (snap []) a).map (·.lane) = some 1 ∧
    (chooseLane { c with scanOrder := [5, 4, 3, 2, 1, 0] } (snap []) a).map (·.lane) = some 2 := by
  decide +kernel

/-- Hold and release (01, Section 1.7): the ENTER of 192 appends 52 dm at 140 and holds the lane, the first
RELEASE gives rank 9, the second is refused. -/
theorem test_hold_and_release :
    let s0 := bayWith Conf.blank [laneOf (laneConf 6 600 0 0 0) .opened [rec 1 136 280 2 0]] [] []
    let s1 := then_ (enterMsg 6 192) s0
    let s2 := then_ (.release 6 9) s1
    let s3 := then_ (.release 6 4) s2
    let held (s : State) : List Bool := s.table.lanes.map fun l => s.table.stowage.held l.snap
    let tail (s : State) : List (Option (Int × Int × Option Nat)) :=
      s.table.lanes.map fun l => l.placed.getLast?.map fun r => (r.length, r.front, r.rank)
    s1.table.lanes.map (·.used) = [196] ∧ tail s1 = [some (52, 140, none)] ∧ held s1 = [true] ∧
    tail s2 = [some (52, 140, some 9)] ∧ held s2 = [false] ∧ tail s3 = tail s2 ∧
    s3.out.panel = [.taken, .refused] := by decide +kernel

/-- The bay of 07, Section 7.11. -/
def bay5 : State :=
  bayWith { Conf.blank with nodeNumber := 5 }
    [laneOf (laneConf 1 600 0 150 2) .opened [],
     laneOf (laneConf 2 600 30 150 2) .opened [rec 1 136 280 1 0, rec 2 45 15 0 140],
     laneOf (laneConf 3 600 0 150 2) .opened []]
    [entry (rid 0 44) 2 (arr 11 130 280 2) 189 0 520000, entry (rid 1 60) 2 (arr 12 40 15 1) 323 0 560000,
     entry (rid 0 45) 3 (arr 13 160 250 2) 0 0 580000, entry (rid 2 12) 1 (arr 14 48 15 3) 0 0 300000] []

/-- What the table of 07, Section 7.11 shows of lane 2: U, and the placed list's lengths and fronts. -/
def lane2 (s : State) : List (Int × List (Int × Int)) :=
  (s.table.lane? 2).toList.map fun l => (l.used, l.placed.map fun r => (r.length, r.front))

/-- The LEAVE and the first two ENTERs of 07, Section 7.11. -/
theorem test_leave_then_enters :
    let s1 := then_ (leaveMsg 2 136) bay5
    let s2 := then_ (enterMsg 2 180) s1
    let s3 := then_ (enterMsg 2 318) s2
    lane2 s1 = [(140, [(136, 0)])] ∧ s1.conditions = [] ∧
    lane2 s2 = [(184, [(136, 0), (40, 140)])] ∧ s2.conditions = [] ∧
    s2.table.inbound.map (·.round) = [rid 0 44, rid 0 45, rid 2 12] ∧
    lane2 s3 = [(318, [(136, 0), (40, 140), (130, 184)])] ∧
    s3.conditions.map (fun c => (c.code, c.lane)) = [(.placementBreach, some 2)] ∧
    ((s3.table.lane? 2).bind fun l => l.placed.getLast?.map (·.flags)) = some [.overstow] := by
  decide +kernel

/-- The variation of 07, Section 7.11: a LEAVE of 90 removes Z and passes the bay to RECOVERY. -/
theorem test_leave_that_does_not_add_up :
    after (leaveMsg 2 90) bay5 (fun t =>
      decide (t.node = .recovery) && decide (lane2 t = [(140, [(136, 0)])]) &&
        decide (t.sensor.surveyDue = some 20000) && decide (t.out.surveys = 1)) = true := by
  decide +kernel

/-- A misdirected ENTER behind a vehicle for an earlier port, and the missing vehicle of 07, Section 7.11. -/
theorem test_misdirected_and_missing :
    let s1 := { bay5 with table := { bay5.table with inbound := bay5.table.inbound.drop 2 } }
    let s2 := then_ (enterMsg 2 353) s1
    let s3 := then_ (.travelTimerExpiry 14) s2
    s2.conditions.map (fun c => (c.code, c.lane)) = [(.misdirected, some 2), (.placementBreach, some 2)] ∧
    s2.table.inbound.map (·.round) = [rid 2 12] ∧
    s3.table.inbound = [] ∧ s3.now = 300000 ∧
    s3.conditions.map (·.code) = [.misdirected, .placementBreach, .inboundMissing] := by
  decide +kernel

/-- The catch-up of 08, Section 8.6: two advances before the TALLY is taken. -/
theorem test_catch_up :
    let s0 := bayWith { Conf.blank with nodeNumber := 14, deck := 3 }
      [laneOf (laneConf 0 600 0 0 0) .opened [rec 1 136 280 1 0, rec 2 45 15 0 140],
       laneOf (laneConf 1 600 0 0 0) .opened [],
       laneOf (laneConf 2 600 0 0 0) .opened [unidentified 250 50 0]]
      [entry (rid 0 71) 1 (arr 3 45 15 2) 0 0 600000]
      [{ round := rid 1 90, lane := 1, arrival := arr 4 45 15 3, front := 49, centre := 0, expiry := 900 }]
    let s1 := { s0 with tally := { s0.tally with callNumber := 7 } }
    let p : TallyPayload :=
      { bay := 22, callNumber := 9, seq := 40, nodeState := 2, weight := 0, mt := 260, ml := 0
        vehicles := 0, freeTotal := 0, openLanes := 0, congested := 0 }
    after (.tally (header 22 9 (.tally p)) p) s1 (fun t =>
      decide (t.tally.callNumber = 9) &&
      decide (t.table.lanes.map (fun l => l.placed.map (·.rank)) = [[some 0, some 0], [], [none]]) &&
      decide (t.table.inbound.map (·.arrival.rank) = [0]) &&
      decide (t.table.reservations.map (·.arrival.rank) = [1]) &&
      decide (t.conditions.map (fun c => (c.code, c.lane, c.count)) = [(.overcarried, some 0, 3)]) &&
      decide (t.tally.peers.map (·.tally) = [p]) && decide (t.dli = s1.dli)) = true := by
  decide +kernel

/-- Sequences around 256 (08, Section 8.6): 3 is newer than 250, and 249 is not newer than 3. -/
theorem test_sequence_order :
    leads 3 250 = true ∧ leads 249 3 = false ∧ leads 7 7 = false ∧ lags 8 9 = true := by decide

/-- The RECOVERY of 10, Section 10.7, to its END. -/
theorem test_recovery :
    let s0 := bayWith { Conf.blank with nodeNumber := 17 }
      [laneOf (laneConf 0 600 0 0 0) .opened [rec 1 136 280 2 0, rec 2 136 280 2 140],
       laneOf (laneConf 1 600 0 0 0) .opened [rec 3 45 15 0 0],
       laneOf (laneConf 2 600 0 0 0) .opened []] []
      [{ round := rid 0 62, lane := 0, arrival := arr 4 45 15 2, front := 280, centre := 0, expiry := 900 }]
    let s1 := then_ (leaveMsg 1 60) s0
    let s2 := then_ (levelMsg 0 130) s1
    let s3 := then_ (levelMsg 1 58) s2
    let s4 := then_ (.surveyEnd { word := checkWord [6] }) s3
    s1.node = .recovery ∧ s1.table.reservations = [] ∧ s1.conditions = [] ∧
    s3.table.lanes.map (·.used) = [140, 62, 0] ∧
    s3.conditions.map (fun c => (c.code, c.lane)) =
      [(.earlyRemoval, some 0), (.unidentifiedVehicle, some 1)] ∧
    s4.node = .active ∧ s4.table.lanes.map (·.suspect) = [false, false, true] ∧
    (shownCondition [] s4.conditions).map (·.code) = some .earlyRemoval := by decide +kernel

/-- On an empty queue a step is one tick of the clock (log entry 1). -/
theorem test_empty_queue_ticks : Machine.step State.reset = .next { State.reset with now := 1 } := rfl

/-! ## The witnesses' two nodes -/

/-- An arrival record as carried on the lines. -/
def wire (b : BookingWord) (length weight : Word16) (rank : Byte) : ArrivalWire :=
  { booking := b, kind := 1, length := length, width := 20, height := 20, weight := weight, axle := 10
    hazard := 0, flags := 0, rank := rank }

/-- An ARRIVAL record with its check word. -/
def arrivalMsg (w : ArrivalWire) : Instr := .arrival w { word := checkWord ([1] ++ ArrivalWire.bytes w) }

/-- A queued frame not yet tried. -/
def queued (p : Payload) (age : Nat) : QFrame :=
  { payload := p, callNumber := 0, age := age, attempts := 0, leaving := false }

/-- The OFFER of round 1/7 by the bay below. -/
def offer17 : OfferPayload :=
  { round := rid 1 7, bay := 12, deck := 1, lane := 3, score := 200 }

/-- A CALL that waits or is evaluated at the bay below. -/
def callOf (r : RoundId) (b : Nat) (deadline : Nat) : QueuedCall :=
  { round := r, callNumber := 0, deckMask := 1, window := 400, arrival := arr b 45 15 1, receipt := 0
    deadline := deadline }

/-- A TALLY of a bay. -/
def tallyOf (bay callNumber seq nodeState : Byte) : TallyPayload :=
  { bay := bay, callNumber := callNumber, seq := seq, nodeState := nodeState, weight := 0, mt := 260
    ml := 0, vehicles := 0, freeTotal := 0, openLanes := 0, congested := 0 }

/-- The ACTIVE bay without its evaluation: lanes OPEN, CLOSED and in FAULT, a LASHING and a rankless record,
two inbound entries, a reservation, two peers, a queued OFFER and TALLY. -/
def bayBase : State :=
  let lashing : Record :=
    { rec 101 136 280 2 0 with
      status := .lashing, lashDue := some 700000, round := some (rid 0 9), reefer := true, granted := true }
  let s := bayWith { Conf.blank with nodeNumber := 12, scanOrder := [4, 3, 2, 1, 0] }
    [laneOf (laneConf 0 600 45 320 2) .opened [lashing, unidentified 250 50 140],
     { laneOf (laneConf 1 600 0 320 0) .closed [] with suspect := true },
     laneOf (laneConf 2 600 0 320 0) (.fault .closed) [],
     laneOf (laneConf 3 600 (-45) 320 0) .opened [],
     laneOf (laneConf 4 600 0 320 0) (.fault .opened) []]
    [entry (rid 0 1) 0 (arr 201 60 20 2) 194 96 600000, entry (rid 0 2) 3 (arr 202 45 15 1) 0 298 600000]
    [{ round := rid 1 7, lane := 3, arrival := arr 301 45 15 1, front := 49, centre := 249
       expiry := 1900 }]
  { s with
    now := 100
    eval := { Evaluator.idle with
      roundRecord := { ramp0 := some 2, ramp1 := some 8, ramp2 := some 5, ramp3 := none } }
    tally := { s.tally with
      peers := [⟨tallyOf 22 0 38 2, 50, false⟩, ⟨tallyOf 30 0 250 2, 60, false⟩] }
    dli := { Dli.initial with
      queue := [queued (.offer offer17) 1, queued (.tally (tallyOf 12 0 0 2)) 0], nextAge := 2 } }

/-- The ACTIVE bay: `bayBase` with the evaluation of round 1/8 in flight and round 2/5 queued. -/
def bay : State :=
  { bayBase with eval := { bayBase.eval with
      inFlight := some { call := callOf (rid 1 8) 302 200, snapshot := bayBase.snapshot, restarts := 0 }
      callQueue := [callOf (rid 2 5) 303 300] } }

/-- The bay in a state that may not promise: no reservation, no CALL in hand. -/
def quietBay (n : NodeState) : State :=
  { bayBase with node := n, table := { bayBase.table with reservations := [] } }

/-- The bay with a survey outstanding, lane 0 replied. -/
def surveyedBay (n : NodeState) : State :=
  { quietBay n with sensor := { surveyDue := some 20000, replied := [0], withheld := 0 } }

/-- The bay with a lane of 23 records, 20 dm each, and one of 24. -/
def deepBay : State :=
  let stack (n b : Nat) : List Record :=
    (List.range n).map fun i => rec (b + i) 20 5 2 (24 * i)
  bayWith { Conf.blank with nodeNumber := 12 }
    [laneOf (laneConf 0 600 0 320 2) .opened (stack 23 1000),
     laneOf (laneConf 7 600 0 320 0) .opened (stack 24 2000)]
    [entry (rid 0 1) 7 (arr 201 48 20 2) 576 0 600000] []

/-- A waiting entry. -/
def waits (b : Nat) (called : Bool) (notBefore : Option Nat) : WaitingEntry :=
  { arrival := arr b 45 15 1, attempts := 0, notBefore := notBefore, called := called }

/-- A dispatched entry. -/
def sent (r : RoundId) (b : Nat) (bay : Byte) : DispatchedEntry :=
  { round := r, arrival := arr b 45 15 1, attempts := 0, deck := 1, bay := bay, lane := 3 }

/-- The CALL of the ramp's open round. -/
def call152 : CallPayload :=
  { round := rid 1 52, deckMask := 1, window := 40, arrival := wire 401 45 15 1 }

/-- An ACTIVE ramp with round 1/52 open and an offer in hand, three waiting entries and two dispatched. -/
def ramp : State :=
  let s : State := { State.reset with
    life := .running, node := .active, now := 100
    conf := { Conf.blank with role := .ramp, rampId := 1, holdHigh := 3, holdLow := 1 }
    tally := { TallyUnit.initial with callNumber := 7 }
    rounds := { RoundController.initial with
      seq := 52, hold := true
      waiting := [waits 401 true none, waits 402 false (some 5000), waits 403 false none]
      dispatched := [sent (rid 1 50) 410 9, sent (rid 1 51) 411 48]
      openRound := some
        { round := rid 1 52, deckMask := 1, window := 400, windowDue := some 405
          offers := [{ bay := 9, deck := 1, lane := 2, score := 190 }] } }
    dli := { Dli.initial with
      queue := [queued (.award { round := rid 1 51, bay := 48, lane := 3 }) 0], nextAge := 1 } }
  { s with retained := copied s }

/-- The ramp with no round open and its entries uncalled. -/
def idleRamp : State :=
  { ramp with rounds := { ramp.rounds with
      openRound := none, waiting := [waits 401 false none, waits 402 false (some 5000), waits 403 false none] } }

/-- `s` with a command waiting. -/
def given_ (c : Instr) (s : State) : State := { s with pending := [c] }

/-! ## Ramp examples (06, Section 6.9) -/

/-- Arrivals: the first opens a round and its CALL is queued; a rank of 0 is brought to 1 and marked CLAMPED;
a duplicate is refused. -/
theorem test_arrivals :
    let s0 := { idleRamp with rounds := { RoundController.initial with seq := 30 }, dli := Dli.initial }
    let s1 := then_ (arrivalMsg (wire 80150 136 420 3)) s0
    let s2 := then_ (arrivalMsg (wire 80171 160 260 0)) s1
    let s3 := then_ (arrivalMsg (wire 80171 45 20 1)) s2
    s1.rounds.openRound.map (·.round) = some (rid 1 31) ∧
    s1.dli.queue.map (·.payload.cls) = [3] ∧
    s2.rounds.waiting.map (fun w => (w.called, w.arrival.rank, w.arrival.clamped)) =
      [(true, 3, false), (false, 1, true)] ∧
    s3.rounds = s2.rounds ∧
    s3.out.gate = [{ booking := 80171, verdict := .refused .duplicate }] := by decide +kernel

/-- Bays 9 and 12 both offer 190: the lower bay number is awarded. -/
theorem test_equal_offers :
    let os : List Offer :=
      [{ bay := 12, deck := 2, lane := 0, score := 190 }, { bay := 9, deck := 2, lane := 1, score := 190 }]
    let s := { ramp with rounds := { ramp.rounds with
      openRound := ramp.rounds.openRound.map fun o => { o with offers := os } } }
    after .windowTimerExpiry s (fun t =>
      decide ((t.rounds.dispatched.map (·.bay)) = [9, 48, 9]) &&
      decide (t.out.gate = [{ booking := 401, verdict := .awarded 2 9 1 false }])) = true := by
  decide +kernel

/-! ## Rules met at one command -/

/-- A frame of an unknown kind, of an unknown NOTICE subtype or of another size that agrees with its check
word is acknowledged and does nothing else, its leading call number unheeded; one that does not agree is
not acknowledged (R156, R161). -/
theorem test_unknown_frames :
    let acked (h : RxHeader) : Option (Nat × Byte) :=
      match exec (.portcall h 3) bay with
      | .next t => some (t.out.acks, t.tally.callNumber)
      | .fault _ => none
      | .refused _ => none
    acked (oddHeader 9 [3]) = some (1, 0) ∧ acked (oddHeader 7 [3]) = some (1, 0) ∧
    acked (oddHeader 8 [3, 3]) = some (1, 0) ∧
    acked { oddHeader 9 [3] with check := (oddHeader 9 [3]).check + 1 } = some (0, 0) ∧
    acked (header 60 3 (.portcall 3)) = some (1, 3) := by decide +kernel

/-- A sensor message or gate record of an unknown code, or of a length that is not its code's, is discarded
though its check word agrees, whichever command brings it (R162). -/
theorem test_unknown_messages :
    let ignored (c : Instr) (s : State) : Bool := after c s (fun t => decide (t = s))
    ignored (.enter 3 45 (oddCheck [9, 3])) bay = true ∧ ignored (.leave 0 136 (oddCheck [2, 0, 0])) bay = true ∧
    ignored (.sensorFault 0 (oddCheck [7])) bay = true ∧ ignored (.sensorClear 2 (oddCheck [4])) bay = true ∧
    ignored (.level 0 30 (oddCheck [])) (surveyedBay .recovery) = true ∧
    ignored (.surveyEnd (oddCheck [6, 0])) (surveyedBay .recovery) = true ∧
    ignored (.arrival (wire 1 45 15 1) (oddCheck [3])) idleRamp = true ∧
    ignored (arrivalMsg (wire 1 45 15 1)) idleRamp = false := by decide +kernel

/-- The restart of a leading TALLY's catch-up reads the peer table as it stood before the TALLY, which
counts from the next start on (R51, R141, R148). -/
theorem test_leading_tally_restarts_first :
    let p := tallyOf 48 1 0 2
    after (.tally (header 48 1 (.tally p)) p) bay (fun t =>
      decide (t.tally.callNumber = 1) && decide (t.tally.peers.length = 3) &&
        decide (t.eval.inFlight.map (fun v => (t.estimateT - v.snapshot.st, v.restarts)) =
          some (260, 1))) = true := by decide +kernel

/-- A completion after the deadline reserves nothing and takes the next CALL, one at the deadline reserves;
the expiry of a CALL that is not evaluated has no effect (R73). -/
theorem test_deadlines :
    let left (c : Instr) (now : Nat) : Option (Nat × Option RoundId) :=
      match exec c { bay with now := now } with
      | .next t => some (t.table.reservations.length, t.eval.inFlight.map (·.call.round))
      | .fault _ => none
      | .refused _ => none
    left .evaluationCompletion 201 = some (1, some (rid 2 5)) ∧
    left .evaluationCompletion 200 = some (2, some (rid 2 5)) ∧
    left (.deadlineExpiry (rid 1 8)) 100 = some (1, some (rid 2 5)) ∧
    left (.deadlineExpiry (rid 2 5)) 100 = some (1, some (rid 1 8)) := by decide +kernel

/-- Every field of the store is checked, those of the other role too (R178). -/
theorem test_fields_of_the_other_role :
    let k : ConfigStore :=
      { role := .bay, nodeNumber := 12, scanOrder := [0]
        lanes := [{ number := 0, length := 600, y := 0, xf := 320, axle := 150, sockets := 2, matchSet := []
                    careSet := [], firstState := .opened }] }
    let read (k : ConfigStore) : Option (Nat × Bool) := (loadConfig k).map fun x => (x.1.recallDelay, x.2)
    read k = some (8, false) ∧ read { k with recallDelay := 1 } = some (2, true) ∧
    (loadConfig { role := .ramp, gap := 11 }).map (·.2) = some true ∧
    (loadConfig { role := .ramp }).map (·.2) = some false := by decide +kernel

/-! ## Witnesses: how commands are taken, and the invariants -/

/-- Commands that are neither a write of the store nor a start (EveryCommandCompletes, BookingsKeptOnce,
WithdrawnBayStaysFrozen). -/
theorem witness_plain_command :
    (∀ k, Instr.ack ≠ .configurationWrite k) ∧ ∀ a g, Instr.ack ≠ .start a g :=
  ⟨fun _ h => (nomatch h), fun _ _ h => (nomatch h)⟩

/-- CommandsTurnedAside, clause by clause. -/
theorem witness_CommandsTurnedAside :
    let raw : State := { State.reset with life := .running }
    (¬ State.reset.Configured ∧ reachesAnyNode .tallyPeriod = false ∧
      (State.reset.life = .running → isPanelCommand .tallyPeriod = false)) ∧
    (¬ raw.Configured ∧ reachesAnyNode .tallyPeriod = false ∧ isPanelCommand .tallyPeriod = false) ∧
    (bay.life = .running ∧ raw.life = .running ∧ raw.node = .unconfigured ∧
      isPanelCommand .ack = true ∧ Instr.ack ≠ .panelReset) ∧
    ¬ ramp.IsBay ∧ (0 : Word16) ≠ checkWord ([1, 0] ++ bytes2 40) ∧
    (0 : Word16) ≠ checkWord ([2, 0] ++ bytes2 40) ∧ (0 : Word16) ≠ checkWord [3, 0] ∧
    (0 : Word16) ≠ checkWord [4, 0] ∧ (0 : Word16) ≠ checkWord ([5, 0] ++ bytes2 40) ∧
    (0 : Word16) ≠ checkWord [6] ∧ (oddCheck [9]).form ≠ .asRow := by decide +kernel

/-- A step from the bay (SumsKept, CapacitiesKept, BookingsKeptOnce, PromisesKept, LineQueueKept,
ConditionOrderKept, RolesKeptApart), whose invariants the bay meets. -/
theorem witness_invariants_bay :
    (∃ t, Machine.step (given_ .evaluationCompletion bay) = .next t) ∧
    let s := given_ .evaluationCompletion bay
    s.LaneSums ∧ s.Ledger ∧ s.FrontsStand ∧ s.WithinCapacities ∧ s.RanksBounded ∧ s.BookingsOnce ∧
      s.PromisesHeld ∧ s.SnapshotCurrent ∧ s.LineQueue ∧ s.ConditionOrder ∧ s.RoleApart := by
  refine ⟨⟨_, rfl⟩, ?_⟩
  and_intros <;> decide +kernel

/-- A step from the ramp (RampQueueKept and those of the bay that bear on a ramp), whose invariants the ramp
meets. -/
theorem witness_invariants_ramp :
    (∃ t, Machine.step (given_ .windowTimerExpiry ramp) = .next t) ∧
    let s := given_ .windowTimerExpiry ramp
    s.RampQueue ∧ s.LineQueue ∧ s.WithinCapacities ∧ s.ConditionOrder ∧ s.RoleApart := by
  refine ⟨⟨_, rfl⟩, ?_⟩
  and_intros <;> decide +kernel

/-- A queue of frames of given payloads, highest class first, the first of them on the line. -/
def lineOf (ps : List Payload) : Dli :=
  { Dli.initial with
    queue := ps.zipIdx.map fun x => queued x.1 x.2
    onLine := ps.head?.map fun _ => { age := 0, spoiled := false }, nextAge := ps.length }

/-- A frame of each class handed in at a queue of 8: the payloads that stand, and the drops. -/
def handedIn (d : Dli) (p : Payload) : List Payload × List Drop :=
  ((d.handInNormal 0 p).1.queue.map (·.payload), (d.handInNormal 0 p).2)

/-- LineQueueKept, a frame handed in: a TALLY in place of one that waits and beside one on the line; a queue of
7; at 8 frames a TALLY refused beside one that only leaves, an AWARD refused among PORTCALLs, a PORTCALL that
evicts the newest of the lowest class, an AWARD among them, and a CALL that evicts a CALL of its own class but
not the one on the line. -/
theorem witness_LineQueueKept :
    let award (n : Byte) : Payload := .award { round := rid 1 n, bay := 48, lane := 3 }
    let call : Payload := .call call152
    let tally (n : Byte) : Payload := .tally (tallyOf 12 0 n 2)
    let calls (n : Nat) : List Payload := List.replicate n (.portcall 7)
    let full (ps : List Payload) : Prop :=
      (lineOf ps).queue.Pairwise QFrame.before ∧ (lineOf ps).queue.length = 8 ∧
        ∀ g ∈ (lineOf ps).queue, g.age < (lineOf ps).nextAge
    handedIn (lineOf [.noticeWithdrawn, tally 0]) (tally 1) = ([.noticeWithdrawn, tally 1], []) ∧
    ((lineOf [tally 0]).handInNormal 0 (tally 1)).1.queue.map (fun f => (f.payload, f.leaving)) =
      [(tally 0, true), (tally 1, false)] ∧
    handedIn (lineOf (calls 7)) call = (calls 7 ++ [call], []) ∧
    (let leaving : QFrame := { queued (tally 0) 7 with leaving := true }
     let d : Dli :=
       { lineOf (calls 7) with
         queue := (lineOf (calls 7)).queue ++ [leaving], onLine := some { age := 7, spoiled := false }
         nextAge := 8 }
     d.queue.Pairwise QFrame.before ∧ d.queue.length = 8 ∧ d.handInNormal 0 (tally 1) = (d, [])) ∧
    full (calls 8) ∧ handedIn (lineOf (calls 8)) (award 1) = (calls 8, [.award (rid 1 1) 48]) ∧
    full (calls 6 ++ [award 1, award 2]) ∧
    handedIn (lineOf (calls 6 ++ [award 1, award 2])) (.portcall 8) =
      (calls 6 ++ [.portcall 8, award 1], [.award (rid 1 2) 48]) ∧
    full (call :: List.replicate 7 call) ∧
    handedIn (lineOf (List.replicate 8 call)) call = (List.replicate 8 call, [.call (rid 1 52)]) := by
  and_intros <;> decide +kernel

/-- ConfigurationKeptInRange: the bay and the ramp. -/
theorem witness_ConfigurationKeptInRange :
    (given_ .evaluationCompletion bay).ConfInRange ∧ (given_ .windowTimerExpiry ramp).ConfInRange := by
  constructor <;> refine fun _ => ⟨by decide, by decide, by decide, ?_, ?_, by decide +kernel⟩ <;>
    and_intros <;> decide +kernel

/-- CopiesKeptFollowing: the bay and the ramp. -/
theorem witness_CopiesKeptFollowing :
    (given_ .evaluationCompletion bay).CopiesFollow ∧ (given_ .windowTimerExpiry ramp).CopiesFollow := by
  constructor
  all_goals
    refine ⟨by decide +kernel, by decide +kernel, by decide +kernel, by decide +kernel,
      by decide +kernel, fun _ _ _ => ⟨?_, ?_, ?_, ?_⟩⟩ <;> decide +kernel

/-- NoOfferWithoutReservation: the bay puts the OFFER of the reservation it holds on the line. -/
theorem witness_NoOfferWithoutReservation :
    after (.transmitStart []) bay (fun t =>
      decide (t.out.deck = bay.out.deck ++
        [{ source := 12, callNumber := 0, payload := .offer offer17 }])) = true := by decide +kernel

/-- WithdrawnBayStaysFrozen: a WITHDRAWN bay with placed records and inbound entries. -/
theorem witness_WithdrawnBayStaysFrozen :
    (∃ t, exec .ack (quietBay .withdrawn) = .next t) ∧
    ((quietBay .withdrawn).IsBay ∧ (quietBay .withdrawn).node = .withdrawn ∧
      (quietBay .withdrawn).PromisesHeld) :=
  ⟨⟨_, rfl⟩, by decide +kernel⟩

/-! ## Witnesses: functions of the spec -/

/-- FilterAcceptance: a match set that differs only outside the care set, an empty and a full care set. -/
theorem witness_FilterAcceptance :
    let c : LaneConf := { laneConf 0 600 0 0 0 with careSet := [.car], matchSet := [.car] }
    let all : List Attr := [.car, .unacc, .oversize, .high, .wide, .heavy, .hazard, .reefer]
    (∀ x ∈ c.careSet, (x ∈ [Attr.car, .reefer] ↔ x ∈ c.matchSet)) ∧
    (laneConf 0 600 0 0 0).careSet = [] ∧ c.accepts (arr 1 45 15 1) = true ∧
    { c with matchSet := [] }.accepts (arr 1 45 15 1) = false ∧ all.length = 8 ∧ all.Nodup := by
  decide +kernel

/-- MomentsRounded: peers in another order, and a saturated estimate at the bounds of the other premises. -/
theorem witness_MomentsRounded :
    bay.tally.peers.reverse.Perm bay.tally.peers ∧ bay.tally.peers.reverse ≠ bay.tally.peers ∧
    (let c : Conf := { Conf.blank with mtLim := 2000000 }
     (0 < c.mtLim ∧ c.mtLim ≤ 2000000 ∧
       ((arr 1 45 600 1).weight * (laneConf 0 600 200 0 0).y).natAbs ≤ 120000) ∧
     saturate 2000000001 = 2000000000 ∧ saturate (-2000000001) = -2000000000) := by decide +kernel

/-- ScoresInRange: a lane that the arrival fills exactly, an empty lane of 1200 dm, and lanes that are not
eligible. -/
theorem witness_ScoresInRange :
    let c : Conf := { Conf.blank with gap := 2, wF := 0, wD := 15, wH := 15, mtLim := 0 }
    let snap (n : Int) : Snapshot :=
      { stowage := { lanes := [(laneOf (laneConf 0 n 0 0 0) .opened []).snap], reservations := []
                     inbound := [] }, st := 0, sl := 0 }
    let free (n : Int) : List Int :=
      (snap n).stowage.lanes.flatMap fun l => ((laneVerdict c (snap n) (arr 1 58 15 1) l).map (·.free)).toList
    2 ≤ c.gap ∧ 0 ≤ c.mtLim ∧ inLimits 0 15 c.wF ∧ inLimits 0 15 c.wD ∧ inLimits 0 15 c.wH ∧
    free 60 = [60] ∧ free 1200 = [1200] ∧ free 59 = [] ∧
    (bay.snapshot.stowage.lanes.map fun l => (laneVerdict bay.conf bay.snapshot (arr 9 45 15 1) l).isSome) =
      [true, false, false, true, false] ∧
    (candidates bay.conf bay.snapshot (arr 9 45 15 1)).map (·.lane) = [3, 0] := by decide +kernel

/-- BestIsChosen: a choice and none, a best offer among equals and none. -/
theorem witness_BestIsChosen :
    (chooseLane bay.conf bay.snapshot (arr 9 45 15 1)).map (·.lane) = some 3 ∧
    chooseLane bay.conf bay.snapshot (arr 9 700 15 1) = none ∧
    bestOffer [{ bay := 12, deck := 2, lane := 0, score := 190 }, { bay := 9, deck := 2, lane := 1, score := 190 }] =
      some { bay := 9, deck := 2, lane := 1, score := 190 } ∧ bestOffer [] = none := by decide +kernel

/-- FrameBytesDetermineFrame: two frames of equal bytes. -/
theorem witness_FrameBytesDetermineFrame :
    let f : Frame := { source := 12, callNumber := 0, payload := .offer offer17 }
    f.bytes = ({ f with payload := .offer { offer17 with score := 200 } } : Frame).bytes ∧
    f.bytes.length = 14 := by decide +kernel

/-! ## Witnesses: starts, the store and the retained copy -/

/-- A write in flight with a further write marked, of a part. -/
def writing {α : Type} (c : α) : Machine.Part α := { kept := .invalid, writing := some c, further := true }

/-- The bay with writes of lane 0's, the inbound list's and the node copy in flight. -/
def writingBay : State :=
  { bay with retained := { bay.retained with
      lanes := bay.retained.lanes.map fun p =>
        if p.number = 0 then
          { p with part := writing { stored := .closed, placed := [], used := 0, sockets := 0 } }
        else p
      inbound := writing []
      node := { bay.retained.node with writing := some (.b, bay.nodeCopy), further := true, next := .a } } }

/-- RetainedCopyWrites: parts with and without a write in flight, with a further write marked. -/
theorem witness_RetainedCopyWrites :
    (∃ l ∈ writingBay.table.lane? 0, l.number = 0) ∧
    (∃ p ∈ writingBay.retained.lanes, p.number = 0 ∧ p.part.writing ≠ none ∧ p.part.further = true) ∧
    (∃ p ∈ writingBay.retained.lanes, p.number = 7 ∧ p.part.writing = none) ∧
    writingBay.retained.inbound.writing = some [] ∧ bay.retained.inbound.writing = none ∧
    writingBay.retained.node.writing = some (.b, bay.nodeCopy) ∧ bay.retained.node.writing = none := by
  and_intros <;> decide +kernel

/-- A lane entry of a store. -/
def laneEntry (n : Int) : LaneEntry :=
  { number := n, length := 600, y := 0, xf := 320, axle := 150, sockets := 2, matchSet := [], careSet := []
    firstState := .opened }

/-- The store of a bay of lanes 0, 2, 3 and 7, its congestion mark to be clamped. -/
def bayStore : ConfigStore :=
  { role := .bay, nodeNumber := 48, lanes := [laneEntry 0, laneEntry 2, laneEntry 3, laneEntry 7]
    scanOrder := [7, 3, 2, 0], congestHigh := 7 }

/-- The bay restarted: lane 0's copy valid, lane 2's valid and in FAULT, lane 3's broken, lane 7's blank. -/
def restarting : State :=
  { bay with
    life := .starting, store := bayStore
    retained := { bay.retained with
      lanes := bay.retained.lanes.map fun p =>
        if p.number = 3 then { p with part := { p.part with kept := .invalid } } else p } }

/-- StartOfABay: a start due after power-on and after a drained PANEL RESET, with copies of each state. -/
theorem witness_StartOfABay :
    restarting.startDue = true ∧ ({ restarting with life := .closing } : State).startDue = true ∧
    (loadConfig restarting.store).map (fun x => (x.1.role, x.1.lanes.map (·.number), x.2)) =
      some (.bay, [0, 2, 3, 7], true) ∧
    (∃ c, restarting.retained.keptLane 0 = .valid c) ∧
    (restarting.retained.keptLane 2).content?.map (·.stored) = some (.fault .closed) ∧
    restarting.retained.keptLane 3 = .invalid ∧ restarting.retained.keptLane 7 = .blank ∧
    restarting.retained.keptInbound.length = 2 := by
  and_intros <;> first | exact ⟨_, rfl⟩ | decide +kernel

/-- StartOfARampOrNone: a ramp of id 3, each store that leaves the node UNCONFIGURED, a start not due. -/
theorem witness_StartOfARampOrNone :
    let at_ (k : ConfigStore) : State := { ramp with life := .starting, store := k }
    (at_ { role := .ramp, rampId := 3 }).startDue = true ∧
    (loadConfig { role := .ramp, rampId := 3 }).map (·.1.role) = some .ramp ∧
    loadConfig {} = none ∧ loadConfig { bayStore with nodeNumber := 49 } = none ∧
    loadConfig { bayStore with nodeNumber := 0 } = none ∧
    loadConfig { bayStore with lanes := [laneEntry 8, laneEntry (-1)] } = none ∧
    loadConfig { role := .ramp, rampId := 4 } = none ∧ loadConfig { role := .ramp, rampId := -1 } = none ∧
    ramp.startDue = false ∧ ({ writingBay with life := .closing } : State).startDue = false := by
  and_intros <;> decide +kernel

/-! ## Witnesses: crew commands -/

/-- OpenOfLanes: a lane OPEN, CLOSED, in FAULT with each remembered state; a bay with no CLOSED lane. -/
theorem witness_OpenOfLanes :
    bay.IsBay ∧ bay.RoleApart ∧ deepBay.IsBay ∧ deepBay.RoleApart ∧
    (∃ l ∈ bay.table.lane? 0, l.stored = .opened) ∧ (∃ l ∈ bay.table.lane? 1, l.stored = .closed) ∧
    (∃ l ∈ bay.table.lane? 2, l.stored = .fault .closed) ∧
    (∃ l ∈ bay.table.lane? 4, l.stored = .fault .opened) ∧
    (∀ k ∈ deepBay.table.lanes, k.stored ≠ .closed) := by
  and_intros <;> decide +kernel

/-- CloseOfALane: the lanes of OpenOfLanes, in a table without doubles. -/
theorem witness_CloseOfALane :
    bay.table.Distinct ∧ (bay.table.lane? 0).isSome = true ∧ (bay.table.lane? 1).isSome = true ∧
    (bay.table.lane? 4).isSome = true ∧ deepBay.table.Distinct ∧ (deepBay.table.lane? 7).isSome = true := by
  decide +kernel

/-- ReleaseOfALane: the rankless record of lane 0 at ranks 1 and 15, and each refusal. -/
theorem witness_ReleaseOfALane :
    bay.IsBay ∧ bay.node ≠ .withdrawn ∧
    (∃ l ∈ bay.table.lane? 0, (∃ r ∈ l.placed[1]?, r.status = .unidentified ∧ r.rank = none) ∧
      ∀ x ∈ l.placed.drop 2, ¬ (x.status = .unidentified ∧ x.rank = none)) ∧
    (∃ l ∈ bay.table.lane? 3, ∀ x ∈ l.placed, ¬ (x.status = .unidentified ∧ x.rank = none)) ∧
    (quietBay .withdrawn).IsBay ∧ (quietBay .withdrawn).node = .withdrawn := by
  and_intros <;> decide +kernel

/-- LashingConfirmedOrOver: a LASHING record with its timer, a lane with none, a booking with no timer. -/
theorem witness_LashingConfirmedOrOver :
    bay.IsBay ∧ bay.table.Distinct ∧
    (∃ l ∈ bay.table.lane? 0, ∃ r ∈ l.placed, r.status = .lashing) ∧
    (∃ l ∈ bay.table.lane? 3, ∀ r ∈ l.placed, r.status ≠ .lashing ∧ r.status ≠ .unlashed) ∧
    (∃ l ∈ bay.table.lanes.find? (fun l => l.placed.any (Record.lashRuns 101)), l.number = 0 ∧
      ∃ r ∈ l.placed.find? (Record.lashRuns 101), r.lashDue = some 700000) ∧
    (∀ l ∈ bay.table.lanes, ∀ r ∈ l.placed, r.booking = some 102 → r.status = .lashing →
      r.lashDue = none) := by
  and_intros <;> decide +kernel

/-- CommandsRefused: a lane number without a record, a ramp, and each refusal of ADVANCE PORT. -/
theorem witness_CommandsRefused :
    bay.Configured ∧ bay.table.lane? 5 = none ∧ ramp.IsRamp ∧ bay.IsBay ∧
    (let s : State := { idleRamp with node := .listen }; s.IsRamp ∧ s.node ≠ .active) ∧
    (let s : State := { ramp with rounds := { ramp.rounds with heldAdvance := true } }
     s.IsRamp ∧ s.rounds.openRound ≠ none ∧ s.rounds.heldAdvance = true) := by
  and_intros <;> decide +kernel

/-- `s` with one condition. -/
def alarmed (k : Code) (s : State) : State :=
  { s with conditions := [{ code := k, lane := none, count := 1, age := 0 }] }

/-- AckOfACondition: a condition that ACK does not clear, one that it does, STOP at a bay and at a ramp, and
nothing shown. -/
theorem witness_AckOfACondition :
    let shows (k : Code) (s : State) : Bool :=
      decide ((shownCondition (alarmed k s).conf.alarmMask (alarmed k s).conditions).map (·.code) = some k)
    bay.Configured ∧ ramp.Configured ∧ shows .withdrawn bay = true ∧ shows .lineSilent ramp = true ∧
    shows .laneFault bay = true ∧ shows .lashUnconfirmed bay = true ∧ shows .misdirected bay = true ∧
    shows .stop bay = true ∧ shows .stop ramp = true ∧ shows .configClamped ramp = true ∧
    shownCondition bay.conf.alarmMask bay.conditions = none := by
  and_intros <;> decide +kernel

/-- AdvanceOfThePort: no round open, with room for the last frame and in SILENT; a round open. -/
theorem witness_AdvanceOfThePort :
    let award (n : Nat) : QFrame := queued (.award { round := rid 1 51, bay := 48, lane := 3 }) n
    let seven : Dli := { ramp.dli with queue := (List.range 7).map award, nextAge := 7 }
    idleRamp.IsRamp ∧ idleRamp.node = .active ∧ idleRamp.rounds.openRound = none ∧
    idleRamp.dli.hasRoom 1 ∧ seven.hasRoom 1 ∧ ({ seven with line := .silent } : Dli).hasRoom 1 ∧
    ramp.node = .active ∧ ramp.rounds.openRound ≠ none ∧ ramp.rounds.heldAdvance = false := by
  and_intros <;> decide +kernel

/-! ## Witnesses: discrete inputs and the gate line -/

/-- StopLineAtABay: a bay with lanes of every state, an evaluation and a reservation, and one whose lanes the
edge leaves as they are. -/
theorem witness_StopLineAtABay :
    bay.IsBay ∧ bay.RoleApart ∧
    (let s : State := bayWith Conf.blank [laneOf (laneConf 0 600 0 0 0) .closed []] [] []
     s.IsBay ∧ s.RoleApart) := by
  and_intros <;> decide +kernel

/-- StopLineAtARamp: no round open; a round open, without and with a held advance; an UNCONFIGURED node. -/
theorem witness_StopLineAtARamp :
    let held : State := { ramp with rounds := { ramp.rounds with heldAdvance := true } }
    idleRamp.IsRamp ∧ idleRamp.rounds.openRound = none ∧ ramp.IsRamp ∧ ramp.rounds.openRound ≠ none ∧
    ramp.rounds.waiting.find? (·.called) ≠ none ∧ ramp.rounds.heldAdvance = false ∧
    held.IsRamp ∧ held.rounds.heldAdvance = true ∧ ¬ State.reset.Configured := by
  and_intros <;> decide +kernel

/-- GradientAndNotBefore: a ramp and a bay; a waiting entry with a not-before time, and none. -/
theorem witness_GradientAndNotBefore :
    idleRamp.IsRamp ∧ ¬ bay.IsRamp ∧
    (∃ w ∈ idleRamp.rounds.waiting.find? (fun w => decide (w.arrival.booking = 402)),
      w.notBefore = some 5000) ∧
    (∀ w ∈ idleRamp.rounds.waiting, w.arrival.booking = 401 → w.notBefore = none) ∧
    ({ idleRamp with rounds := { idleRamp.rounds with
        waiting := [waits 402 false (some 5000)] }, now := 5000 } : State).MayOpen := by
  and_intros <;> decide +kernel

/-- ArrivalAtARamp: a record of each case of R102 and one accepted, each with its check word, at the bounds. -/
theorem witness_ArrivalAtARamp :
    let full : State := { idleRamp with rounds := { idleRamp.rounds with
      waiting := (List.range 16).map fun i => waits (500 + i) false none } }
    let verdict (s : State) (w : ArrivalWire) : List Verdict :=
      match exec (arrivalMsg w) s with
      | .next t => t.out.gate.map (·.verdict)
      | .fault _ => []
      | .refused _ => []
    ramp.IsRamp ∧ full.IsRamp ∧ ¬ bay.IsRamp ∧
    verdict idleRamp (wire 0 45 15 1) = [.refused .noBooking] ∧
    verdict idleRamp { wire 1 45 15 1 with kind := 6 } = [.refused .badKind] ∧
    verdict idleRamp (wire 1 251 15 1) = [.refused .tooLong] ∧
    verdict idleRamp (wire 1 250 601 1) = [.refused .tooHeavy] ∧
    verdict idleRamp { wire 1 250 600 1 with hazard := 7 } = [.refused .badHazard] ∧
    verdict idleRamp (wire 411 45 15 1) = [.refused .duplicate] ∧
    verdict full (wire 1 45 15 1) = [.refused .queueFull] ∧
    verdict idleRamp { wire 1 250 600 15 with hazard := 6, kind := 5 } = [] ∧
    (0 : Word16) ≠ checkWord ([1] ++ ArrivalWire.bytes (wire 1 45 15 1)) ∧ (oddCheck [3]).form ≠ .asRow := by
  and_intros <;> decide +kernel

/-! ## Witnesses: frames of the deck line -/

/-- A CALL of a round. -/
def callFor (ramp seq : Byte) : CallPayload :=
  { round := rid ramp seq, deckMask := 1, window := 40, arrival := wire 304 45 15 1 }

/-- CallTurnedAway: an old round; each of the five cases of R65 for a new one; a ramp. -/
theorem witness_CallTurnedAway :
    let p := callFor 1 9
    let h := header 61 0 (.call p)
    let b3 : State := { bay with tally := { bay.tally with callNumber := 1 } }
    let silent : State := { quietBay .active with dli := { Dli.initial with line := .silent, probeTime := some 5 } }
    let crowded : State := { quietBay .active with eval := { bayBase.eval with congested := true } }
    let other : CallPayload := { p with deckMask := 0x3E }
    bay.Hears h (.call p) ∧ bay.conf.role = .bay ∧
    (bay.caughtUp h).eval.roundRecord.isNew (rid 1 8) = false ∧
    bay.Hears (header 61 0 (.call (callFor 1 8))) (.call (callFor 1 8)) ∧
    (bay.caughtUp h).eval.roundRecord.isNew p.round = true ∧
    ((quietBay .listen).Hears h (.call p) ∧ ((quietBay .listen).caughtUp h).node ≠ .active) ∧
    (silent.Hears h (.call p) ∧ (silent.caughtUp h).dli.line = .silent) ∧
    (crowded.Hears h (.call p) ∧ (crowded.caughtUp h).eval.congested = true) ∧
    (bay.Hears (header 61 0 (.call other)) (.call other) ∧ maskHasDeck other.deckMask bay.conf.deck = false) ∧
    (b3.Hears h (.call p) ∧ lags h.callNumber (b3.caughtUp h).tally.callNumber = true) ∧
    ramp.Hears h (.call p) ∧ ramp.conf.role = .ramp := by
  and_intros <;> decide +kernel

/-- CallTurnedAway: of each kind a frame that does not agree, one of no row, one of another class, and
well-formed frames from the first and last node numbers. -/
theorem witness_FramesDiscarded :
    let award : Payload := .award { round := rid 1 7, bay := 48, lane := 3 }
    let kinds : List (RxHeader → Instr × Payload) :=
      [fun h => (.call h call152, .call call152), fun h => (.offer h offer17, .offer offer17),
       fun h => (.award h { round := rid 1 7, bay := 48, lane := 3 }, award),
       fun h => (.decline h { round := rid 1 7, reason := 1 }, .decline { round := rid 1 7, reason := 1 }),
       fun h => (.placed h { round := rid 1 7, booking := 1, bay := 9, lane := 0, front := 0 },
         .placed { round := rid 1 7, booking := 1, bay := 9, lane := 0, front := 0 }),
       fun h => (.noticeMissing h { round := rid 1 7, booking := 1 }, .noticeMissing { round := rid 1 7, booking := 1 }),
       fun h => (.tally h (tallyOf 9 0 1 2), .tally (tallyOf 9 0 1 2)),
       fun h => (.noticeWithdrawn h, .noticeWithdrawn), fun h => (.portcall h 1, .portcall 1)]
    ¬ State.reset.Configured ∧ bay.Configured ∧
    (kinds.all fun k =>
      let p := (k (header 12 0 .noticeWithdrawn)).2
      let h := header 60 0 p
      let cls5 : RxHeader := { h with cls := 5, check := checkWord (receivedBytes { h with cls := 5 } p) }
      let source (n : Byte) : RxHeader := header n 0 p
      decide (frameOf? (k h).1 = some (h, p)) && frameAgrees h p &&
        !(frameAgrees { h with check := h.check + 1 } p) &&
        frameAgrees cls5 p && !(frameWellFormed cls5 p) && decide (cls5.cls.toNat ≠ p.cls) &&
        frameAgrees (oddHeader 9 [3]) p && decide ((oddHeader 9 [3]).form ≠ .asRow) &&
        ([1, 48, 60, 63].all fun n => frameWellFormed (source n) p) &&
        ([0, 49, 59, 64].all fun n => !(frameWellFormed (source n) p))) = true ∧
    (let narrow (n : Byte) : Payload := .call { call152 with window := n }
     frameWellFormed (header 60 0 (narrow 10)) (narrow 10) = true ∧
     frameWellFormed (header 60 0 (narrow 200)) (narrow 200) = true ∧
     frameWellFormed (header 60 0 (narrow 9)) (narrow 9) = false ∧
     frameWellFormed (header 60 0 (narrow 201)) (narrow 201) = false) ∧
    frameWellFormed (header 9 1 (.tally (tallyOf 9 0 1 2))) (.tally (tallyOf 9 0 1 2)) = false := by
  and_intros <;> decide +kernel

/-- CallAdmitted: a new round with an evaluation in flight and room, with a full queue, and at an IDLE
evaluator. -/
theorem witness_CallAdmitted :
    let p := callFor 1 9
    let h := header 61 0 (.call p)
    let full : State := { bay with eval := { bay.eval with
      callQueue := (List.range 4).map fun i => callOf (rid 2 (BitVec.ofNat 8 (2 + i))) (310 + i) 300 } }
    let admits (s : State) : Prop :=
      s.Hears h (.call p) ∧ s.conf.role = .bay ∧ s.PromisesHeld ∧ s.RoleApart ∧
        (s.caughtUp h).eval.roundRecord.isNew p.round = true ∧ (s.caughtUp h).node = .active ∧
        (s.caughtUp h).dli.line = .normal ∧ (s.caughtUp h).eval.congested = false ∧
        maskHasDeck p.deckMask (s.caughtUp h).conf.deck = true ∧
        lags h.callNumber (s.caughtUp h).tally.callNumber = false
    admits bay ∧ admits full ∧ admits bayBase := by
  and_intros <;> decide +kernel

/-- OfferTaken: an offer taken at the bounds of its fields, and each test of R84 failed alone. -/
theorem witness_OfferTaken :
    let p : OfferPayload := { round := rid 1 52, bay := 48, deck := 1, lane := 7, score := 256 }
    let o : OpenRound :=
      { round := rid 1 52, deckMask := 1, window := 400, windowDue := some 405
        offers := [{ bay := 9, deck := 1, lane := 2, score := 190 }] }
    let hears (source callNumber : Byte) (q : OfferPayload) : Prop :=
      ramp.Hears (header source callNumber (.offer q)) (.offer q)
    (hears 48 7 p ∧ (ramp.caughtUp (header 48 7 (.offer p))).rounds.openRound = some o ∧
      maskHasDeck o.deckMask p.deck.toNat = true ∧ (∀ x ∈ o.offers, x.bay ≠ p.bay)) ∧
    (hears 1 8 { p with bay := 1, lane := 0, score := 0 }) ∧ hears 48 7 { p with round := rid 1 53 } ∧
    (hears 48 6 p ∧ lags 6 ramp.tally.callNumber = true) ∧ hears 60 7 { p with bay := 49 } ∧
    hears 60 7 { p with bay := 0 } ∧ hears 47 7 p ∧ (hears 48 7 { p with deck := 2 } ∧ maskHasDeck 1 2 = false) ∧
    hears 48 7 { p with lane := 8 } ∧ hears 48 7 { p with score := 257 } ∧ hears 9 7 { p with bay := 9 } ∧
    idleRamp.Hears (header 48 7 (.offer p)) (.offer p) ∧ idleRamp.rounds.openRound = none ∧
    bay.Hears (header 48 7 (.offer p)) (.offer p) ∧ bay.conf.role = .bay := by
  and_intros <;> decide +kernel

/-- The AWARD of round 1/7. -/
def award17 (bay_ lane : Byte) : AwardPayload := { round := rid 1 7, bay := bay_, lane := lane }

/-- `s` with inbound entries of round 3/1 up to a count. -/
def crowdedTo (n : Nat) (s : State) : State :=
  { s with table := { s.table with
      inbound := (List.range n).map fun i => entry (rid 3 1) 3 (arr (600 + i) 45 15 1) 0 298 600000 } }

/-- AwardConverts: a reservation of the round, with five inbound entries at most. -/
theorem witness_AwardConverts :
    let p := award17 12 3
    let h := header 61 0 (.award p)
    let s := crowdedTo 5 bayBase
    s.Hears h (.award p) ∧ s.conf.role = .bay ∧ s.RoleApart ∧
    (∃ r ∈ (s.caughtUp h).table.reservations.find? (fun x => decide (x.round = p.round)),
      p.bay = BitVec.ofNat 8 (s.caughtUp h).conf.nodeNumber ∧ r.lane = p.lane.toNat) ∧
    (s.caughtUp h).table.inbound.length = 5 ∧ bay.Hears h (.award p) ∧ bay.RoleApart := by
  and_intros <;> decide +kernel

/-- AwardNotConverted: to another bay, with and without a reservation; of a round that stands in the inbound
or a placed list, and of none; a lane mismatch; a full inbound list; at a ramp. -/
theorem witness_AwardNotConverted :
    let hears (s : State) (p : AwardPayload) : Prop := s.Hears (header 61 0 (.award p)) (.award p)
    let held (s : State) (p : AwardPayload) : Bool :=
      s.table.reservations.any fun x => decide (x.round = p.round)
    bay.RoleApart ∧ hears bay (award17 13 3) ∧ held bay (award17 13 3) = true ∧
    (hears bay { award17 12 3 with round := rid 0 1 } ∧ held bay { award17 12 3 with round := rid 0 1 } = false ∧
      bay.table.inbound.any (fun e => decide (e.round = rid 0 1)) = true) ∧
    (hears bay { award17 12 3 with round := rid 0 9 } ∧
      (bay.table.lanes.any fun l => l.placed.any fun x => decide (x.round = some (rid 0 9))) = true) ∧
    (hears bay { award17 12 3 with round := rid 3 9 } ∧ held bay { award17 12 3 with round := rid 3 9 } = false) ∧
    hears bay (award17 12 4) ∧ (hears (crowdedTo 6 bayBase) (award17 12 3) ∧ (crowdedTo 6 bayBase).RoleApart ∧
      held (crowdedTo 6 bayBase) (award17 12 3) = true) ∧
    ramp.Hears (header 60 7 (.award (award17 12 3))) (.award (award17 12 3)) ∧ ramp.RoleApart ∧
    ramp.conf.role = .ramp := by
  and_intros <;> decide +kernel

/-- AnswersOfBays: answers that name a dispatched entry, at 15 and 16 waiting, and answers that name none. -/
theorem witness_AnswersOfBays :
    let p : DeclinePayload := { round := rid 1 50, reason := 1 }
    let placed : PlacedPayload := { round := rid 1 51, booking := 411, bay := 48, lane := 7, front := 0 }
    let missing : MissingPayload := { round := rid 1 50, booking := 410 }
    let with_ (n : Nat) : State := { idleRamp with rounds := { idleRamp.rounds with
      waiting := (List.range n).map fun i => waits (500 + i) false none } }
    (with_ 15).Hears (header 9 7 (.decline p)) (.decline p) ∧
    (with_ 16).Hears (header 9 7 (.decline p)) (.decline p) ∧ (with_ 15).conf.role = .ramp ∧
    (∃ d ∈ ramp.rounds.dispatched, d.round = p.round ∧ d.bay = 9) ∧
    p.round.ramp = BitVec.ofNat 8 ramp.conf.rampId ∧
    ramp.Hears (header 10 7 (.decline p)) (.decline p) ∧ (∀ d ∈ ramp.rounds.dispatched, d.bay ≠ 10) ∧
    bay.Hears (header 9 0 (.decline p)) (.decline p) ∧
    ramp.Hears (header 48 7 (.placed placed)) (.placed placed) ∧
    (∃ d ∈ ramp.rounds.dispatched, d.round = placed.round ∧ d.bay = 48 ∧ d.arrival.booking = 411) ∧
    ramp.Hears (header 9 7 (.placed placed)) (.placed placed) ∧
    ramp.Hears (header 9 7 (.noticeMissing missing)) (.noticeMissing missing) ∧
    (∃ d ∈ ramp.rounds.dispatched, d.round = missing.round ∧ d.bay = 9 ∧ d.arrival.booking = 410) ∧
    ramp.Hears (header 48 7 (.noticeMissing missing)) (.noticeMissing missing) := by
  and_intros <;> decide +kernel

/-- PeerTableKept: a TALLY of no entry, of a newer sequence, from LISTEN, and those not taken; NOTICE
WITHDRAWN; an entry and none; a ramp. -/
theorem witness_PeerTableKept :
    let hears (s : State) (source : Byte) (p : TallyPayload) : Prop :=
      s.Hears (header source s.tally.callNumber (.tally p)) (.tally p)
    let notice (s : State) : Prop :=
      s.Hears (header 22 s.tally.callNumber .noticeWithdrawn) .noticeWithdrawn
    hears bay 48 (tallyOf 48 0 0 2) ∧ peer? 48 bay.tally.peers = none ∧
    hears bay 30 (tallyOf 30 0 3 4) ∧ leads 3 250 = true ∧ hears bay 22 (tallyOf 22 0 0 1) ∧
    hears bay 22 (tallyOf 22 0 38 2) ∧ (peer? 22 bay.tally.peers).map (·.tally.seq) = some 38 ∧
    hears bay 21 (tallyOf 22 0 40 2) ∧ hears bay 60 (tallyOf 0 0 40 2) ∧ hears bay 60 (tallyOf 49 0 40 2) ∧
    hears ramp 22 (tallyOf 22 7 40 2) ∧ notice bay ∧ notice ramp ∧ bay.IsBay ∧
    bay.tally.peers.find? (fun e => decide (e.tally.bay.toNat = 30)) ≠ none ∧
    (∀ e ∈ bay.tally.peers, e.tally.bay.toNat ≠ 48) := by
  and_intros <;> decide +kernel

/-- PortCallTaken: a call number that does not lead, one that leads by 1 and by 127, at a bay and a ramp. -/
theorem witness_PortCallTaken :
    let hears (s : State) (c : Byte) : Prop := s.Hears (header 60 c (.portcall c)) (.portcall c)
    hears bay 0 ∧ leads 0 bay.tally.callNumber = false ∧ hears bay 1 ∧ leads 1 bay.tally.callNumber = true ∧
    hears bay 127 ∧ leads 127 bay.tally.callNumber = true ∧ hears ramp 8 ∧
    leads 8 ramp.tally.callNumber = true ∧ bay.conf.role = .bay ∧ ramp.conf.role = .ramp := by
  and_intros <;> decide +kernel

/-! ## Witnesses: messages of the sensor line -/

/-- An ENTER meets what EnterMatched and EnterUnexpected ask of its lane and length. -/
abbrev enterable (s : State) (lane : Nat) (m : Int) : Prop :=
  s.IsBay ∧ s.node ≠ .withdrawn ∧ s.RoleApart ∧ s.table.Distinct ∧
    ∃ l ∈ s.table.lane? lane,
      l.placed.length < 24 ∧ m ≤ l.conf.length ∧ 10 ≤ m - l.used

/-- The bay with one inbound entry of 40 dm, which an inferred length of 10 dm matches. -/
def shortBay : State :=
  { quietBay .listen with table := { bayBase.table with
      reservations := [], inbound := [entry (rid 0 1) 3 (arr 201 40 20 2) 0 0 600000] } }

/-- EnterMatched: an own-lane match at the tolerance, at an inferred length of 10 dm, and a misdirected one
behind 23 records up to the lane's length. -/
theorem witness_EnterMatched :
    (enterable bay 0 254 ∧ matchEntry 30 60 0 bay.table.inbound =
      some (entry (rid 0 1) 0 (arr 201 60 20 2) 194 96 600000, false)) ∧
    (enterable shortBay 3 10 ∧ (matchEntry 30 10 3 shortBay.table.inbound).map (·.2) = some false) ∧
    (enterable deepBay 0 600 ∧ (matchEntry 30 48 0 deepBay.table.inbound).map (·.2) = some true ∧
      (deepBay.table.lane? 0).map (fun l => (l.used, l.placed.length, l.conf.length)) = some (552, 23, 600)) := by
  and_intros <;> decide +kernel

/-- EnterUnexpected: an inferred length just outside the tolerance of each entry. -/
theorem witness_EnterUnexpected :
    (enterable bay 3 14 ∧ ∀ e ∈ bay.table.inbound, bay.conf.tolerance < (e.arrival.length - 14).natAbs) ∧
    (enterable deepBay 0 569 ∧
      ∀ e ∈ deepBay.table.inbound, deepBay.conf.tolerance < (e.arrival.length - (569 - 552)).natAbs) := by
  and_intros <;> decide +kernel

/-- `s` is the bay of 23 and 24 records in a node state. -/
def deepIn (n : NodeState) : State := { deepBay with node := n }

/-- InconsistentEvent: no lane record, 24 records, a length above the lane's, less than 10 dm inferred, a LEAVE
from an empty lane, in each node state, with a survey outstanding and without; in WITHDRAWN an ENTER and a
LEAVE that the stowage allows. -/
theorem witness_InconsistentEvent :
    let leave : Instr := leaveMsg 3 0
    (deepIn .active).IsBay ∧ (deepIn .active).RoleApart ∧
    (∀ l ∈ deepBay.table.lane? 7, l.placed.length = 24) ∧
    deepBay.table.lane? 1 = none ∧ sensorAgrees 1 1 40 { word := checkWord ([1, 1] ++ bytes2 40) } = true ∧
    sensorAgrees 1 7 590 { word := checkWord ([1, 7] ++ bytes2 590) } = true ∧
    (∀ l ∈ deepBay.table.lane? 0, l.conf.length < 601 ∧ 561 - l.used < 10) ∧
    (∀ l ∈ bay.table.lane? 3, l.placed = []) ∧ leave = .leave 3 0 { word := checkWord ([2, 3] ++ bytes2 0) } ∧
    bay.IsBay ∧ bay.RoleApart ∧ bay.node = .active ∧ bay.sensor.surveyDue = none ∧
    (surveyedBay .active).sensor.surveyDue ≠ none ∧ (surveyedBay .active).RoleApart ∧
    (surveyedBay .listen).IsBay ∧ (surveyedBay .recovery).IsBay ∧ (quietBay .withdrawn).IsBay ∧
    (quietBay .withdrawn).RoleApart ∧ isVehicleMessage (enterMsg 3 45) = true ∧
    isVehicleMessage (leaveMsg 0 136) = true ∧ (quietBay .withdrawn).node = .withdrawn := by
  and_intros <;> decide +kernel

/-- InconsistentEvent: the predicate itself, for each way to be inconsistent. -/
theorem witness_inconsistent_ways :
    deepBay.Inconsistent 7 (enterMsg 7 590) ∧ deepBay.Inconsistent 1 (enterMsg 1 40) ∧
    deepBay.Inconsistent 0 (enterMsg 0 601) ∧ deepBay.Inconsistent 0 (enterMsg 0 561) ∧
    bay.Inconsistent 3 (leaveMsg 3 0) ∧ bay.Inconsistent 5 (leaveMsg 5 0) := by
  refine ⟨⟨by decide +kernel, by decide, fun l h => .inl ?_⟩,
    ⟨by decide +kernel, by decide, fun l h => (nomatch h)⟩,
    ⟨by decide +kernel, by decide, fun l h => .inr (.inl ?_)⟩,
    ⟨by decide +kernel, by decide, fun l h => .inr (.inr ?_)⟩,
    ⟨by decide +kernel, by decide, fun l h => ?_⟩, ⟨by decide +kernel, by decide, fun l h => (nomatch h)⟩⟩ <;>
    (obtain rfl := Option.some.inj h; decide +kernel)

/-- LeaveOfTheTail: a LEAVE at the tolerance and just outside it, in LISTEN, ACTIVE and RECOVERY, and the last
record of a lane. -/
theorem witness_LeaveOfTheTail :
    let tail (s : State) (lane m : Int) : Option (Int × Nat) :=
      (s.table.lane? lane.toNat).bind fun l => l.placed.getLast?.map fun r =>
        let after := l.used - (r.length + s.conf.gap)
        (m - (if l.placed.length = 1 then 0 else after - s.conf.gap), l.placed.length)
    bay.IsBay ∧ bay.RoleApart ∧ bay.table.Distinct ∧ bay.node = .active ∧
    tail bay 0 166 = some (30, 2) ∧ tail bay 0 105 = some (-31, 2) ∧
    (surveyedBay .listen).IsBay ∧ (surveyedBay .listen).RoleApart ∧ tail (surveyedBay .listen) 0 167 = some (31, 2) ∧
    (surveyedBay .recovery).IsBay ∧ (surveyedBay .recovery).table.Distinct ∧
    tail (surveyedBay .recovery) 0 167 = some (31, 2) ∧
    tail (then_ (leaveMsg 0 136) bay) 0 30 = some (30, 1) ∧ (then_ (leaveMsg 0 136) bay).RoleApart := by
  and_intros <;> decide +kernel

/-- LaneFaultAndClear: lanes OPEN, CLOSED with the mark, in FAULT with each remembered state, and none. -/
theorem witness_LaneFaultAndClear :
    bay.IsBay ∧ bay.RoleApart ∧ bay.table.Distinct ∧
    (bay.table.lane? 0).map (·.stored) = some .opened ∧ (bay.table.lane? 1).map (·.suspect) = some true ∧
    (bay.table.lane? 2).map (·.stored) = some (.fault .closed) ∧
    (bay.table.lane? 4).map (·.stored) = some (.fault .opened) ∧ bay.table.lane? 7 = none ∧
    (quietBay .withdrawn).IsBay ∧ (quietBay .withdrawn).RoleApart := by
  and_intros <;> decide +kernel

/-- LevelReconciles: within the tolerance on either side, a remainder below 10 dm, an unexpected vehicle, one
record and all records removed, one removed and an unexpected vehicle in its place; a length above the lane's
and an unexpected vehicle behind 24 records, in LISTEN, ACTIVE and RECOVERY; no survey, WITHDRAWN, a lane number
without a lane record. -/
theorem witness_LevelReconciles :
    let s := surveyedBay .recovery
    let tight : State := { s with conf := { s.conf with tolerance := 10 } }
    s.IsBay ∧ s.RoleApart ∧ s.table.Distinct ∧ s.sensor.surveyDue ≠ none ∧ s.node ≠ .withdrawn ∧
    (∃ l ∈ s.table.lane? 0, l.used = 194 ∧ l.conf.length = 600 ∧ l.placed.length = 2 ∧ l.placed ≠ [] ∧
      extentSum 4 (l.placed.drop 1) = 54 ∧ extentSum 4 (l.placed.drop 0) = 194) ∧
    ((220 - (194 - 4) : Int).natAbs ≤ 30 ∧ (160 - (194 - 4) : Int).natAbs ≤ 30) ∧
    (tight.IsBay ∧ tight.RoleApart ∧ (10 : Int) < 201 - (194 - 4) ∧ (201 : Int) - 194 < 10) ∧
    ((30 : Int) < 221 - (194 - 4) ∧ 10 ≤ (221 : Int) - 194) ∧
    ((170 : Int) - (194 - 4) < -10 ∧ (10 : Int) < 170 - (140 - 4) ∧ 10 ≤ (170 : Int) - 140) ∧
    s.table.lane? 5 = none ∧ (600 : Int) < 601 ∧ (surveyedBay .listen).IsBay ∧ (surveyedBay .active).IsBay ∧
    (surveyedBay .listen).RoleApart ∧ (surveyedBay .active).RoleApart ∧
    (let full (n : NodeState) : State :=
      { deepBay with node := n, sensor := s.sensor, conf := { deepBay.conf with tolerance := 10 } }
     (full .listen).IsBay ∧ (full .active).IsBay ∧ (full .recovery).IsBay ∧ (full .recovery).RoleApart ∧
     (full .recovery).table.Distinct ∧
     ∃ l ∈ deepBay.table.lane? 7, l.placed.length = 24 ∧ l.used = 576 ∧ l.conf.length = 600 ∧
      (10 : Int) < 600 - (576 - 4) ∧ 10 ≤ (600 : Int) - 576) ∧
    ((159 : Int) - (194 - 4) < -30 ∧ -30 ≤ (159 : Int) - (140 - 4) ∧ (159 : Int) - (140 - 4) ≤ 30) ∧
    ((30 : Int) - (194 - 4) < -30 ∧ (30 : Int) - (140 - 4) < -30 ∧ (30 : Int) - 0 ≤ 30) ∧
    bay.sensor.surveyDue = none ∧ (surveyedBay .withdrawn).IsBay ∧ (surveyedBay .withdrawn).RoleApart := by
  and_intros <;> decide +kernel

/-- SurveyAndListenEnd: a survey outstanding in each node state, with the listen interval running and over;
the end of the listen interval at a ramp and at a bay with its survey closed and outstanding. -/
theorem witness_SurveyAndListenEnd :
    let listening (s : State) : State := { s with node := .listen, listenDue := some 12000 }
    (surveyedBay .recovery).IsBay ∧ (surveyedBay .recovery).RoleApart ∧
    (surveyedBay .recovery).sensor.surveyDue = some 20000 ∧
    ((surveyedBay .listen).IsBay ∧ (surveyedBay .listen).listenDue = none ∧ (surveyedBay .listen).RoleApart) ∧
    ((listening (surveyedBay .listen)).IsBay ∧ (listening (surveyedBay .listen)).RoleApart ∧
      (listening (surveyedBay .listen)).sensor.surveyDue ≠ none) ∧
    ((surveyedBay .active).IsBay ∧ (surveyedBay .active).RoleApart) ∧ bay.sensor.surveyDue = none ∧
    (surveyedBay .withdrawn).IsBay ∧ bay.listenDue = none ∧
    ((listening idleRamp).Configured ∧ (listening idleRamp).RoleApart ∧ (listening idleRamp).conf.role = .ramp) ∧
    ((listening (quietBay .listen)).Configured ∧ (listening (quietBay .listen)).RoleApart ∧
      (listening (quietBay .listen)).sensor.surveyDue = none) := by
  and_intros <;> decide +kernel

/-! ## Witnesses: events of the deck line -/

/-- `s` with the attempt of its first queued frame on the line, after some attempts. -/
def carrying (attempts : Nat) (leaving : Bool) (s : State) : State :=
  { s with dli := { s.dli with
      onLine := s.dli.queue.head?.map fun f => { age := f.age, spoiled := false }
      queue := match s.dli.queue with
        | [] => []
        | f :: fs => { f with attempts := attempts, leaving := leaving } :: fs } }

/-- TransmitStarts: an attempt on the line; a queue of a dead OFFER alone; a frame that loses to a class and
to a source, one that wins against equal class and higher source, and one spoiled by its own source. -/
theorem witness_TransmitStarts :
    let dead : State := { quietBay .active with dli := { Dli.initial with queue := [queued (.offer offer17) 0], nextAge := 1 } }
    (carrying 0 false bay).dli.onLine ≠ none ∧ bay.Configured ∧ bay.dli.onLine = none ∧
    (bay.dli.queue.map (·.payload.cls) = [2, 4] ∧ bay.table.reservations.any (fun r => decide (r.round = rid 1 7)) = true) ∧
    (dead.Configured ∧ dead.table.reservations = [] ∧ dead.dli.queue.length = 1) ∧
    ramp.Configured ∧ ramp.dli.onLine = none ∧ ramp.dli.queue.map (·.payload.cls) = [1] ∧ ramp.conf.rampId = 1 ∧
    (Rival.mk 1 48).wf = true ∧ (Rival.mk 2 11).wf = true ∧ (Rival.mk 2 13).wf = true ∧ (Rival.mk 1 61).wf = true := by
  and_intros <;> decide +kernel

/-- A silent line. -/
def fallen (s : State) : State :=
  { s with dli := { s.dli with line := .silent, failures := 16, probeTime := some 5000 } }

/-- The attempt on the line carries a frame that stands in the queue. -/
abbrev carries (s : State) (p : QFrame → Prop) [DecidablePred p] : Prop :=
  s.Configured ∧ s.RoleApart ∧
    ∃ o ∈ s.dli.onLine, ∃ f ∈ s.dli.queue.find? (fun f => decide (f.age = o.age)), p f

/-- The ramp with the CALL of its open round at the head, its window timer stopped. -/
def callingRamp : State :=
  { ramp with
    rounds := { ramp.rounds with openRound := ramp.rounds.openRound.map fun o => { o with windowDue := none } }
    dli := { Dli.initial with queue := [queued (.call call152) 0], nextAge := 1 } }

/-- The bay with a TALLY alone in its queue. -/
def probingBay : State :=
  { quietBay .active with dli := { Dli.initial with queue := [queued (.tally (tallyOf 12 0 0 2)) 0], nextAge := 1 } }

/-- AttemptAcknowledged: in NORMAL a ramp's CALL and a bay's OFFER; in SILENT each role's frame. -/
theorem witness_AttemptAcknowledged :
    carries (carrying 0 false callingRamp) (fun f => f.payload.isCallOf (rid 1 52) = true) ∧
    carries (carrying 0 false bay) (fun f => f.payload.isOfferFor (rid 1 7) = true) ∧
    (carrying 0 false bay).dli.line = .normal ∧
    carries (fallen (carrying 0 false callingRamp)) (fun _ => True) ∧
    carries (fallen (carrying 7 false probingBay)) (fun f => f.IsProbe) ∧
    (fallen (carrying 7 false probingBay)).dli.line = .silent := by
  and_intros <;> decide +kernel

/-- AttemptFails: a frame that leaves, a 7th and an 8th attempt, at 14 failures and in SILENT; an AWARD of a
dispatched entry with room to return it and with none; an attempt spoiled. -/
theorem witness_AttemptFails :
    let ending (n : Nat) (s : State) : State := { s with dli := { s.dli with failures := n } }
    let full : State := { ramp with rounds := { ramp.rounds with
      waiting := (List.range 16).map fun i => waits (500 + i) (decide (i = 0)) none } }
    carries (carrying 0 true bay) (fun f => f.leaving = true) ∧
    carries (carrying 6 false bay) (fun f => f.attempts + 1 < 8) ∧
    carries (ending 14 (carrying 7 false bay)) (fun f => 8 ≤ f.attempts + 1) ∧
    (ending 14 (carrying 7 false bay)).dli.failures + 1 < 16 ∧
    carries (fallen (carrying 7 false probingBay)) (fun f => 8 ≤ f.attempts + 1) ∧
    (carries (carrying 7 false ramp) (fun f => f.payload.dropReport = [.award (rid 1 51) 48]) ∧
      (ramp.rounds.dispatched.any fun d => decide (d.round = rid 1 51) && decide (d.bay = 48)) = true ∧
      ramp.rounds.waiting.length < 16) ∧
    (carries (carrying 7 false full) (fun f => 8 ≤ f.attempts + 1) ∧ 16 ≤ full.rounds.waiting.length) ∧
    (∀ o ∈ (carrying 6 false bay).dli.onLine, ({ o with spoiled := true } : OnLine).spoiled = true) := by
  and_intros <;> decide +kernel

/-- LineFallsSilent: the 16th drop at a bay and at a ramp, of a CALL, and of an AWARD whose entry is still
dispatched, with room to return it and with none. -/
theorem witness_LineFallsSilent :
    let last (s : State) : State := { s with dli := { s.dli with failures := 15 } }
    (carries (last (carrying 7 false bay)) (fun f => f.leaving = false ∧ f.attempts = 7) ∧
      (last (carrying 7 false bay)).dli.line = .normal) ∧
    (carries (last (carrying 7 false callingRamp)) (fun f => f.leaving = false ∧ f.attempts = 7) ∧
      callingRamp.rounds.openRound.map (fun o => (o.round, o.windowDue)) = some (rid 1 52, none)) ∧
    (let full : State := { ramp with rounds := { ramp.rounds with
      waiting := (List.range 16).map fun i => waits (500 + i) (decide (i = 0)) none } }
     carries (last (carrying 7 false ramp)) (fun f => f.leaving = false ∧ f.attempts = 7 ∧
      ∃ e ∈ ramp.rounds.dispatched, f.payload.dropReport = [.award e.round e.bay]) ∧
     carries (last (carrying 7 false full)) (fun f => f.leaving = false ∧ f.attempts = 7)) := by
  and_intros <;> decide +kernel

/-- TimedTallies: each of the three times due at a bay, none due, a ramp's period, a ramp's probe, a probe
still queued and one on the line. -/
theorem witness_TimedTallies :
    let changed : State := { quietBay .active with tally := { bayBase.tally with pendingChange := true } }
    let unbuilt : State := { changed with tally := { changed.tally with lastBuild := none } }
    bay.Configured ∧ bay.RoleApart ∧ (bay.dli.line = .normal ∧ bay.tally.lastBuild = some 0) ∧
    (changed.Configured ∧ changed.RoleApart ∧ changed.tally.pendingChange = true) ∧
    (unbuilt.RoleApart ∧ unbuilt.tally.lastBuild = none) ∧ bay.tally.pendingChange = false ∧
    (let s := fallen (carrying 3 false probingBay); s.Configured ∧ s.RoleApart ∧ s.dli.probeTime = some 5000) ∧
    (let s := fallen probingBay; s.RoleApart ∧ ∃ f ∈ s.dli.queue, f.IsProbe) ∧
    (let s := fallen { ramp with dli := Dli.initial }
     s.Configured ∧ s.RoleApart ∧ s.conf.role = .ramp ∧ s.dli.probeTime = some 5000) ∧
    ramp.Configured ∧ ramp.RoleApart ∧ ramp.dli.probeTime = none := by
  and_intros <;> decide +kernel

/-! ## Witnesses: evaluations, reservations, windows and travel -/

/-- The bay with reservations up to a count, its evaluation restarted on them. -/
def reservedTo (n : Nat) : State :=
  let s : State := { bayBase with table := { bayBase.table with
    reservations := (List.range n).map fun i =>
      { round := rid 3 (BitVec.ofNat 8 i), lane := 3, arrival := arr (320 + i) 45 15 1, front := 49
        centre := 249, expiry := 1900 } } }
  { s with eval := { bay.eval with
      inFlight := some { call := callOf (rid 1 8) 302 200, snapshot := s.snapshot, restarts := 0 } } }

/-- What the evaluation in flight chooses. -/
def chosen (s : State) : Option Nat :=
  s.eval.inFlight.bind fun v => (chooseLane s.conf v.snapshot v.call.arrival).map (·.lane)

/-- EvaluationReserves: lane 3 chosen, three reservations standing, no suspect mark, up to the deadline. -/
theorem witness_EvaluationReserves :
    (reservedTo 3).IsBay ∧ (reservedTo 3).RoleApart ∧ chosen (reservedTo 3) = some 3 ∧
    (reservedTo 3).table.reservations.length = 3 ∧ (reservedTo 3).table.isSuspect 3 = false ∧
    (∃ v ∈ (reservedTo 3).eval.inFlight, (reservedTo 3).now ≤ v.call.deadline ∧ v.call.deadline = 200) ∧
    (let s : State := { reservedTo 3 with now := 200 }; s.IsBay ∧ s.RoleApart ∧ chosen s = some 3) := by
  and_intros <;> decide +kernel

/-- EvaluationsAndReservationsEnd: no eligible lane, a full reservation table, a completion past the deadline, a
suspect lane, the CALL's deadline and another CALL's, none in flight; a reservation of the round and none. -/
theorem witness_EvaluationsAndReservationsEnd :
    let narrow : State := { bay with eval := { bay.eval with
      inFlight := bay.eval.inFlight.map fun v =>
        { v with call := { v.call with arrival := arr 302 700 15 1 } } } }
    let marked : State := { bay with table := bay.table.updateLane 3 Lane.withMark }
    (narrow.IsBay ∧ narrow.RoleApart ∧ chosen narrow = none ∧ narrow.eval.inFlight ≠ none) ∧
    ((reservedTo 4).IsBay ∧ (reservedTo 4).RoleApart ∧ (reservedTo 4).table.reservations.length = 4 ∧
      (reservedTo 4).eval.inFlight ≠ none) ∧
    (marked.IsBay ∧ marked.RoleApart ∧ chosen marked = some 3 ∧ marked.table.isSuspect 3 = true ∧
      marked.table.reservations.length < 4 ∧ ∃ v ∈ marked.eval.inFlight, marked.now ≤ v.call.deadline) ∧
    (let late : State := { bay with now := 201 }
     late.IsBay ∧ late.RoleApart ∧ ∃ v ∈ late.eval.inFlight, v.call.deadline < late.now) ∧
    (∃ v ∈ bay.eval.inFlight, v.call.round = rid 1 8 ∧ v.call.round ≠ rid 2 5) ∧
    (bayBase.IsBay ∧ bayBase.RoleApart ∧ bayBase.eval.inFlight = none) ∧
    (∃ x ∈ bay.table.reservations.find? (fun x => decide (x.round = rid 1 7)), x.expiry = 1900) ∧
    (∀ x ∈ bay.table.reservations, x.round ≠ rid 1 6) := by
  and_intros <;> decide +kernel

/-- WindowEnds: an offer to award with room for its AWARD, and at a full queue that refuses it; no offer,
and SILENT, below and at the attempt limit; no timer running. -/
theorem witness_WindowEnds :
    let crowded : State := { ramp with dli := lineOf (List.replicate 8 (.portcall 7)) }
    let empty : State := { ramp with rounds := { ramp.rounds with
      openRound := ramp.rounds.openRound.map fun o => { o with offers := [] } } }
    ramp.IsRamp ∧ ramp.dli.line = .normal ∧ ramp.dli.queue.length = 1 ∧
    (crowded.IsRamp ∧ crowded.dli.line = .normal ∧
      crowded.dli.dropsOf 7 (.award { round := rid 1 52, bay := 9, lane := 2 }) = [.award (rid 1 52) 9]) ∧
    (∃ o ∈ ramp.rounds.openRound, o.windowDue = some 405 ∧ (bestOffer o.offers).isSome = true) ∧
    (∃ w ∈ ramp.rounds.waiting.find? (·.called), w.attempts + 1 < ramp.conf.attemptLimit) ∧
    (empty.IsRamp ∧ ∃ o ∈ empty.rounds.openRound, o.offers = [] ∧ o.windowDue ≠ none) ∧
    ((fallen ramp).IsRamp ∧ (fallen ramp).dli.line = .silent) ∧
    (let s : State := { empty with conf := { ramp.conf with attemptLimit := 1 } }
     s.IsRamp ∧ ∃ w ∈ s.rounds.waiting.find? (·.called), ¬ w.attempts + 1 < s.conf.attemptLimit) ∧
    (callingRamp.IsRamp ∧ ∀ o ∈ callingRamp.rounds.openRound, o.windowDue = none) := by
  and_intros <;> decide +kernel

/-- TravelTimerExpires: an entry with its timer in ACTIVE and in WITHDRAWN, and a booking with none. -/
theorem witness_TravelTimerExpires :
    bay.IsBay ∧ bay.RoleApart ∧ bay.node ≠ .withdrawn ∧
    (∃ e ∈ bay.table.inbound.find? (Inbound.travels 201), e.travelDue = some 600000) ∧
    ((quietBay .withdrawn).IsBay ∧ (quietBay .withdrawn).RoleApart ∧
      ∃ e ∈ (quietBay .withdrawn).table.inbound.find? (Inbound.travels 202), e.travelDue = some 600000) ∧
    (∀ e ∈ bay.table.inbound, e.arrival.booking = 203 → e.travelDue = none) := by
  and_intros <;> decide +kernel

end Sys2Proof.Tests
end

section
/-! PROOFS. The acceptance filter (R28) and the segregation table (R37). -/

namespace Sys2Proof.Machine

open Sys2Proof

/-! ## The acceptance filter (R28) -/

/-- On each attribute of the care set, the arrival and the match set agree (R28). -/
theorem LaneConf.accepts_iff (c : LaneConf) (a : Arrival) :
    c.accepts a = true ↔ ∀ x ∈ c.careSet, (a.has x = true ↔ x ∈ c.matchSet) := by
  unfold LaneConf.accepts
  rw [List.all_eq_true]
  refine forall₂_congr fun x _ => ?_
  rw [beq_iff_eq, Bool.eq_iff_iff, List.contains_iff_mem]

/-- Attributes outside the care set do not count: only the match set's part within it does (R28). -/
theorem LaneConf.accepts_congr_matchSet (c : LaneConf) (a : Arrival) {ms : List Attr}
    (hms : ∀ x ∈ c.careSet, (x ∈ ms ↔ x ∈ c.matchSet)) :
    ({ c with matchSet := ms } : LaneConf).accepts a = c.accepts a := by
  rw [Bool.eq_iff_iff, accepts_iff, accepts_iff]
  exact forall₂_congr fun x hx => iff_congr Iff.rfl (hms x hx)

theorem LaneConf.accepts_of_careSet_nil {c : LaneConf} (hc : c.careSet = []) (a : Arrival) :
    c.accepts a = true := by
  simp [accepts_iff, hc]

theorem LaneConf.accepts_iff_of_careSet_full {c : LaneConf} (hc : ∀ x, x ∈ c.careSet)
    (a : Arrival) : c.accepts a = true ↔ ∀ x, (a.has x = true ↔ x ∈ c.matchSet) := by
  rw [accepts_iff]
  exact forall_congr' fun x => forall_prop_of_true (hc x)

/-- Settles O17: each clause reads off the filter's one equivalence, `LaneConf.accepts_iff`. -/
theorem filterAcceptance : Obligations.FilterAcceptance := fun c a =>
  ⟨c.accepts_iff a, fun _ hms => c.accepts_congr_matchSet a hms,
    fun hc => LaneConf.accepts_of_careSet_nil hc a,
    fun hc => LaneConf.accepts_iff_of_careSet_full hc a⟩

/-! ## The segregation table (R37) -/

/-- The pairs that the table of R37 names, row by row. -/
def segregationPairs : List (Group × Group) :=
  [(.a, .b), (.a, .c), (.a, .f),
   (.b, .a), (.b, .c), (.b, .e),
   (.c, .a), (.c, .b), (.c, .d),
   (.d, .c), (.d, .f),
   (.e, .b), (.e, .f),
   (.f, .a), (.f, .d), (.f, .e)]

theorem separated_iff_mem_segregationPairs (g h : Group) :
    separated g h = true ↔ (g, h) ∈ segregationPairs := by
  cases g <;> cases h <;> decide

/-- Turning every pair of the table round gives the same pairs again: each stands in both rows (R37). -/
theorem mem_segregationPairs_swap {g h : Group} (hgh : (g, h) ∈ segregationPairs) :
    (h, g) ∈ segregationPairs := by
  have hall : ∀ p ∈ segregationPairs, p.swap ∈ segregationPairs := by decide
  exact hall _ hgh

theorem separated_comm (g h : Group) : separated g h = separated h g := by
  rw [Bool.eq_iff_iff, separated_iff_mem_segregationPairs, separated_iff_mem_segregationPairs]
  exact ⟨mem_segregationPairs_swap, mem_segregationPairs_swap⟩

/-- No pair of the table names a group against itself, so each is compatible with itself (R37). -/
@[simp] theorem separated_self (g : Group) : separated g g = false := by
  have hall : ∀ p ∈ segregationPairs, p.1 ≠ p.2 := by decide
  rw [Bool.eq_false_iff, Ne, separated_iff_mem_segregationPairs]
  exact fun hg => hall _ hg rfl

@[simp] theorem separatedGroups_none_left (x : Option Group) : separatedGroups none x = false := rfl

@[simp] theorem separatedGroups_none_right (x : Option Group) : separatedGroups x none = false := by
  cases x with
  | none => rfl
  | some g => rfl

@[simp] theorem separatedGroups_some (g h : Group) :
    separatedGroups (some g) (some h) = separated g h := rfl

@[simp] theorem unidentified_hazard (weight length front : Int) :
    (unidentified weight length front).hazard = none := rfl

/-- Settles O18: symmetry and self-compatibility are read off the list of the table's pairs. -/
theorem segregationTable : Obligations.SegregationTable := fun g h x weight length front =>
  ⟨separated_iff_mem_segregationPairs g h, separated_comm g h, separated_self g,
    separatedGroups_none_left x, separatedGroups_none_right x, separatedGroups_some g h,
    unidentified_hazard weight length front, rfl⟩

end Sys2Proof.Machine
end

section
/-! PROOFS. The proofs are elaborated one after another: elaborated side by side on their many threads they
come close to the memory that a check of the text may take. -/
set_option Elab.async false

section
/-! PROOFS. The small steps a command is made of: every command is a chain of them and then the end of its
event, so that an invariant is proved once for each small step. A change that has to be handed on is a small
step only once it has been handed on, so that nothing is left to say about the middle of an event. -/

namespace Sys2Proof.Machine

open Sys2Proof

/-! ## What a small step may hand on, put out and keep -/

/-- `k` hands on at least what `h` does (R18). -/
structure HandedOn.Grows (h k : HandedOn) : Prop where
  restart : h.restart = true → k.restart = true
  lanes : h.lanes ⊆ k.lanes
  inbound : h.inbound = true → k.inbound = true
  node : h.node = true → k.node = true

/-- What `o` has put out stays put out in `p`. -/
structure Outputs.Grows (o p : Outputs) : Prop where
  deck : o.deck <+: p.deck
  gate : o.gate <+: p.gate
  panel : o.panel <+: p.panel
  acks : o.acks ≤ p.acks
  surveys : o.surveys ≤ p.surveys

/-- A placed record with another rank, status, timer or flags, in the place it had. -/
structure Record.Same (q r : Record) : Prop where
  booking : r.booking = q.booking
  length : r.length = q.length
  weight : r.weight = q.weight
  front : r.front = q.front
  granted : r.granted = q.granted
  round : r.round = q.round
  rank : q.RankBound → r.RankBound

/-- A lane with other states and records of the same places. -/
structure Lane.Same (k l : Lane) : Prop where
  number : l.number = k.number
  conf : l.conf = k.conf
  used : l.used = k.used
  sockets : l.sockets = k.sockets
  placed : List.Forall₂ Record.Same k.placed l.placed

/-- A lane's copy stands, or its change is handed on (R18). -/
abbrev Lane.CopyHanded (h : HandedOn) (k l : Lane) : Prop := l.copy = k.copy ∨ k.number ∈ h.lanes

/-- An arrival record with another rank. -/
structure Arrival.Same (a b : Arrival) : Prop where
  booking : b.booking = a.booking
  length : b.length = a.length
  weight : b.weight = a.weight
  rank : b.rank ≤ a.rank

/-- A reservation with another rank. -/
structure Reservation.Same (q r : Reservation) : Prop where
  round : r.round = q.round
  lane : r.lane = q.lane
  arrival : q.arrival.Same r.arrival

/-- An inbound entry with another rank or timer. -/
structure Inbound.Same (d e : Inbound) : Prop where
  round : e.round = d.round
  lane : e.lane = d.lane
  front : e.front = d.front
  centre : e.centre = d.centre
  arrival : d.arrival.Same e.arrival

/-- A Lane Table with the same vehicles in the same places; what a copy or a snapshot holds and is changed
is handed on (R18). -/
structure LaneTable.Same (h : HandedOn) (t u : LaneTable) : Prop where
  lanes : List.Forall₂ Lane.Same t.lanes u.lanes
  copies : t.Distinct → List.Forall₂ (Lane.CopyHanded h) t.lanes u.lanes
  reservations : List.Forall₂ Reservation.Same t.reservations u.reservations
  held : u.reservations = t.reservations ∨ h.restart = true
  inbound : List.Forall₂ Inbound.Same t.inbound u.inbound
  copy : u.inbound.map Inbound.retained = t.inbound.map Inbound.retained ∨ h.inbound = true

/-! ## The small steps, block by block -/

/-- The node sends frames of this kind in its role (R161). -/
abbrev State.Sends (s : State) (p : Payload) : Prop := p.fromBay = decide (s.conf.role = .bay)

/-- What a small step makes of the node state (R172, R175, R183). -/
inductive NodeStep (s : State) : NodeState → Prop
  | active (h : s.node = .listen ∨ s.node = .recovery) : NodeStep s .active
  | recovery (h : s.node = .active) (hr : s.table.reservations = []) (he : s.eval.Empty) :
      NodeStep s .recovery
  | withdrawn (h : s.node = .recovery) : NodeStep s .withdrawn

/-- What a small step makes of the Tally Unit, its sums left as they were (R138 to R148). -/
inductive TallyStep (s : State) : TallyUnit → Prop
  | built (hn : s.handed.node = true) :
      TallyStep s { s.tally with
        seq := s.tally.seq + 1, lastBuild := some s.now, pendingChange := false }
  | pending : TallyStep s { s.tally with pendingChange := true }
  | called (hn : s.handed.node = true) (c : Byte) : TallyStep s { s.tally with callNumber := c }
  | peer (hb : s.conf.role = .bay) (e : PeerEntry)
      (he : 1 ≤ e.tally.bay.toNat ∧ e.tally.bay.toNat ≤ 48) :
      TallyStep s { s.tally with peers := putPeer e s.tally.peers }
  | marked (source : Byte) :
      TallyStep s { s.tally with
        peers := s.tally.peers.map fun e =>
          if e.tally.bay = source then { e with withdrawn := true } else e }

/-- What a small step makes of a bay's evaluator with nothing else changed (R64 to R79). -/
inductive EvalStep (s : State) : Evaluator → Prop
  | restarted :
      EvalStep s { s.eval with
        inFlight := s.eval.inFlight.map fun v =>
          { v with snapshot := s.snapshot, restarts := v.restarts + 1 } }
  | idled : EvalStep s { s.eval with inFlight := none, callQueue := [] }
  | known (rr : RoundRecord) : EvalStep s { s.eval with roundRecord := rr }
  | closed (f : QueuedCall → Bool) : EvalStep s { s.eval with callQueue := s.eval.callQueue.filter f }
  | dropped (n : Nat) (h : s.eval.dropped ≤ Config.maxCount → n ≤ Config.maxCount) :
      EvalStep s { s.eval with dropped := n }
  | queued (c : QueuedCall) (hf : s.eval.inFlight ≠ none)
      (hq : s.eval.callQueue.length < Config.maxCalls) :
      EvalStep s { s.eval with callQueue := s.eval.callQueue ++ [c] }
  | advanced (hr : s.handed.restart = true) : EvalStep s s.eval.advance
  | congested (h : s.node ≠ .withdrawn ∨ s.table.reservations ≠ []) :
      EvalStep s { s.eval with inFlight := none, callQueue := [], congested := true }
  | eased (h : s.node ≠ .withdrawn ∨ s.table.reservations ≠ []) :
      EvalStep s { s.eval with congested := false }

/-- What a small step makes of the Deck Line Interface (R150 to R160). -/
inductive DliStep (s : State) : Dli → Prop
  | put (p : Payload) (hl : s.dli.line = .normal) (hp : s.Sends p) :
      DliStep s (s.dli.handInNormal s.tally.callNumber p).1
  | probe (p : Payload) (hl : s.dli.line = .silent) (hk : (p.isTally || p.isPortcall) = true)
      (hp : s.Sends p) :
      DliStep s
        (let d := s.dli.takeOut fun q => q.isTally || q.isPortcall
         d.put (d.newFrame s.tally.callNumber p))
  | probeTime (hl : s.dli.line = .silent) (n : Nat) : DliStep s { s.dli with probeTime := some n }
  | takeOut (sel : Payload → Bool) : DliStep s (s.dli.takeOut sel)
  | started (hn : s.dli.onLine = none) (q : List QFrame) (hq : q <:+ s.dli.queue) (x : Option OnLine) :
      DliStep s { s.dli with queue := q, onLine := x }
  | lost (o : OnLine) (ho : s.dli.onLine = some o)
      (hf : s.dli.queue.find? (fun f => decide (f.age = o.age)) = none) :
      DliStep s { s.dli with onLine := none }
  | ended (f : QFrame) (o : OnLine) (ho : s.dli.onLine = some o)
      (hf : s.dli.queue.find? (fun f => decide (f.age = o.age)) = some f) :
      DliStep s (s.dli.without f.age)
  | again (f : QFrame) (o : OnLine) (ho : s.dli.onLine = some o)
      (hf : s.dli.queue.find? (fun f => decide (f.age = o.age)) = some f)
      (hl : f.leaving = false) (ha : f.attempts + 1 < Config.maxAttempts) :
      DliStep s { s.dli with
        onLine := none
        queue := s.dli.queue.map fun g =>
          if g.age = f.age then { g with attempts := g.attempts + 1 } else g }
  | counted (n : Nat) (hn : n < Config.silentFailures) : DliStep s { s.dli with failures := n }
  | silent (hl : s.dli.line = .normal)
      (hb : s.conf.role = .bay → s.table.reservations = [] ∧ s.eval.Empty) (n due : Nat)
      (hn : s.dli.failures < Config.silentFailures → n ≤ Config.silentFailures) :
      DliStep s { s.dli with
        line := .silent, queue := [], onLine := none, probeTime := some due, failures := n }
  | normal : DliStep s { s.dli with line := .normal, failures := 0, probeTime := none }

/-- The gate hold as it follows a waiting queue of some length (R113). -/
abbrev State.holdFor (s : State) (n : Nat) : Bool :=
  Machine.gate s.conf.holdHigh s.conf.holdLow n s.rounds.hold

/-- What a small step makes of the Round Controller (R82 to R116). -/
inductive RoundsStep (s : State) : RoundController → Prop
  | gradient (g : Fin 4) : RoundsStep s { s.rounds with gradient := g }
  | advance (b : Bool) (h : s.conf.role = .ramp) : RoundsStep s { s.rounds with heldAdvance := b }
  | arrived (a : Arrival) (h : s.conf.role = .ramp) (ha : s.rounds.refusal a = none) :
      RoundsStep s { s.rounds with
        waiting := s.rounds.waiting ++
          [{ arrival := a.accepted, attempts := 0, notBefore := none, called := false }]
        hold := s.holdFor (s.rounds.waiting.length + 1) }
  | opened (o : OpenRound) (ho : o.offers = []) (h : s.MayOpen) (hn : s.handed.node = true)
      (hw : s.rounds.waiting.any (WaitingEntry.callable s.now s.rounds.gradient) = true) :
      RoundsStep s { s.rounds with
        seq := s.rounds.seq + 1
        waiting := markCalled s.now s.rounds.gradient s.rounds.waiting
        openRound := some o }
  | offered (o : OpenRound) (source callNumber : Byte) (p : OfferPayload)
      (ho : s.rounds.openRound = some o) (hp : s.takesOffer source callNumber p o = true) :
      RoundsStep s { s.rounds with
        openRound := some { o with
          offers := o.offers ++
            [{ bay := p.bay, deck := p.deck, lane := p.lane, score := p.score.toNat }] } }
  | window (o : OpenRound) (ho : s.rounds.openRound = some o) (due : Option Nat) :
      RoundsStep s { s.rounds with openRound := some { o with windowDue := due } }
  | closed (hw : s.rounds.waiting.find? (·.called) = none) :
      RoundsStep s { s.rounds with openRound := none }
  | awarded (w : WaitingEntry) (e : DispatchedEntry)
      (hw : s.rounds.waiting.find? (·.called) = some w) (he : e.arrival = w.arrival) :
      RoundsStep s { s.rounds with
        waiting := s.rounds.waiting.eraseP (·.called)
        dispatched := dispatch e s.rounds.dispatched
        hold := s.holdFor (s.rounds.waiting.eraseP (·.called)).length
        openRound := none }
  | recalled (delay : Nat) :
      RoundsStep s { s.rounds with
        waiting := s.rounds.waiting.map (WaitingEntry.recalled s.now delay), openRound := none }
  | shutOut (w : WaitingEntry) (hw : s.rounds.waiting.find? (·.called) = some w) :
      RoundsStep s { s.rounds with
        waiting := s.rounds.waiting.eraseP (·.called)
        hold := s.holdFor (s.rounds.waiting.eraseP (·.called)).length
        openRound := none }
  | answered (f : DispatchedEntry → Bool) :
      RoundsStep s { s.rounds with dispatched := s.rounds.dispatched.eraseP f }
  | returned (f : DispatchedEntry → Bool) (d : DispatchedEntry)
      (hd : s.rounds.dispatched.find? f = some d)
      (hw : s.rounds.waiting.length < Config.maxWaiting) :
      RoundsStep s { s.rounds with
        dispatched := s.rounds.dispatched.eraseP f
        waiting := { arrival := d.arrival, attempts := d.attempts, notBefore := none
                     called := false } :: s.rounds.waiting
        hold := s.holdFor (s.rounds.waiting.length + 1) }
  | abandoned (o : OpenRound) (ho : s.rounds.openRound = some o) :
      RoundsStep s { s.rounds with
        waiting := calledToHead s.rounds.waiting, openRound := none }

/-! ## A start -/

/-- What a due start makes of the node before conditions are raised and the stop line is looked at: the
blocks discarded, the store loaded and, at a configured node, the blocks of its role restored, with the copy
writes that a bay has to begin handed on (R177, R178, R180). -/
def State.booted (stopHigh : Bool) (gradient : Fin 4) (s : State) : State :=
  let s := (s.discarded.setStopLine stopHigh).setGradientPin gradient
  match loadConfig s.store with
  | none => s
  | some (c, _) =>
    let s := s.setConf c
    match c.role with
    | .bay => (s.restoreBay.setNode .listen).handStartWrites
    | .ramp => s.restoreRamp.setNode .listen

/-! ## What happens to the vehicles -/

/-- The own sums with two amounts added (R49). -/
def TallyUnit.moved (dT dL : Int) (u : TallyUnit) : TallyUnit :=
  { u with ownT := u.ownT + dT, ownL := u.ownL + dL }

/-- What a vehicle recorded in a lane or removed from it hands on (R18). -/
abbrev HandedOn.vehicle (n : Nat) (h : HandedOn) : HandedOn :=
  { h with restart := true, tally := true, lanes := h.lanes ++ [n] }

/-- The Lane Table with a record at the tail of a lane (R5). -/
def State.appended (l : Lane) (r : Record) (s : State) : LaneTable :=
  s.table.updateLane l.number (Lane.append s.conf.gap r)

/-- What a small step makes of the Lane Table, with the own sums and what is handed on (R8 to R14, R49, R89 to
R97, R119, R124, R125, R134). -/
inductive VehicleStep (s : State) : TallyUnit → LaneTable → HandedOn → Prop
  | relabelled (t : LaneTable) (hb : s.conf.role = .bay) (ht : s.table.Same s.handed t) :
      VehicleStep s s.tally t s.handed
  | ranked (l : Lane) (rs : List Record) (hb : s.conf.role = .bay)
      (hl : l ∈ s.table.lanes) (hr : List.Forall₂ Record.Same l.placed rs) (hn : s.node ≠ .withdrawn)
      (hh : l.number ∈ s.handed.lanes) :
      VehicleStep s s.tally (s.table.updateLane l.number fun k => { k with placed := rs }) s.handed
  | released (f : Reservation → Bool) (hr : s.handed.restart = true) :
      VehicleStep s s.tally { s.table with reservations := s.table.reservations.filter f } s.handed
  | reserved (v : Evaluation) (x : Choice) (hb : s.conf.role = .bay)
      (hv : s.eval.inFlight = some v) (hx : chooseLane s.conf v.snapshot v.call.arrival = some x)
      (hl : s.table.reservations.length < Config.maxReservations) (hr : s.handed.restart = false) :
      VehicleStep s s.tally
        { s.table with
          reservations := s.table.reservations ++ [v.call.reservation x s.conf.awardGrace] }
        { s.handed with restart := true }
  | converted (r : Reservation) (due : Nat) (hm : r ∈ s.table.reservations)
      (hl : s.table.inbound.length < Config.maxInbound) (hr : s.handed.restart = true)
      (hi : s.handed.inbound = true) :
      VehicleStep s (s.tally.moved ((r.entry due).mT s.table) (r.entry due).mL)
        { s.table with
          reservations := s.table.reservations.erase r
          inbound := s.table.inbound ++ [r.entry due] } s.handed
  | unexpected (l : Lane) (length : Int) (hl : l ∈ s.table.lanes)
      (hp : l.placed.length < Config.maxPlaced) (hn : s.node ≠ .withdrawn) (r : Record)
      (hr : r = unidentified s.conf.unidentifiedWeight length l.used) :
      VehicleStep s (s.tally.moved (r.mT l.conf) (r.mL l.conf)) (s.appended l r)
        (s.handed.vehicle l.number)
  | matched (l : Lane) (e : Inbound) (misdirected : Bool) (due : Nat)
      (hl : l ∈ s.table.lanes) (he : e ∈ s.table.inbound)
      (hp : l.placed.length < Config.maxPlaced) (hn : s.node ≠ .withdrawn)
      (hi : s.handed.inbound = true) (r : Record)
      (hr : r = matchedRecord s.table l e misdirected due) :
      VehicleStep s
        ((s.tally.moved (r.mT l.conf) (r.mL l.conf)).moved (-(e.mT (s.appended l r))) (-e.mL))
        { s.appended l r with inbound := s.table.inbound.erase e } (s.handed.vehicle l.number)
  | left (l : Lane) (r : Record) (hl : l ∈ s.table.lanes) (hr : l.tail? = some r)
      (hn : s.node ≠ .withdrawn) :
      VehicleStep s (s.tally.moved (-(r.mT l.conf)) (-(r.mL l.conf)))
        (s.table.updateLane l.number (Lane.removeTail s.conf.gap r)) (s.handed.vehicle l.number)
  | missing (e : Inbound) (he : e ∈ s.table.inbound) (hn : s.node ≠ .withdrawn)
      (hi : s.handed.inbound = true) :
      VehicleStep s (s.tally.moved (-(e.mT s.table)) (-e.mL))
        { s.table with inbound := s.table.inbound.erase e } s.handed

/-! ## The small steps -/

/-- The Tally Unit, the Lane Table and what is handed on, set together. -/
def State.setVehicles (y : TallyUnit) (t : LaneTable) (h : HandedOn) (s : State) : State :=
  ((s.setTally y).setTable t).setHanded h

/-- One small step of a command. -/
inductive Micro (c : Instr) : State → State → Prop
  | hand (s : State) (h : HandedOn) (hg : s.handed.Grows h) : Micro c s (s.setHanded h)
  | clock (s : State) (n : Nat) (hn : s.now ≤ n) : Micro c s (s.setNow n)
  | stopLine (s : State) (b : Bool) : Micro c s (s.setStopLine b)
  | gradientPin (s : State) (g : Fin 4) : Micro c s (s.setGradientPin g)
  | closing (s : State) (h : s.life = .running) : Micro c s (s.setLife .closing)
  | powered (s : State) (hc : c = .powerOn) : Micro c s s.takePowerOn
  | stored (s : State) (k : ConfigStore) (hc : c = .configurationWrite k) :
      Micro c s (s.takeConfigWrite k)
  | completed (s : State) (part : CopyPart) (hc : c = .copyWriteCompletion part) :
      Micro c s (s.completeWrite part)
  | started (s : State) (stopHigh : Bool) (g : Fin 4) (hc : c = .start stopHigh g)
      (hd : s.startDue = true) : Micro c s (s.booted stopHigh g)
  | out (s : State) (o : Outputs) (hg : s.out.Grows o)
      (hd : o.deck = s.out.deck ∨ ∃ rivals, c = .transmitStart rivals) : Micro c s (s.setOut o)
  | raised (s : State) (code : Code) (lane : Option Nat) : Micro c s (s.raise code lane)
  | cleared (s : State) (code : Code) (lane : Option Nat) : Micro c s (s.clear code lane)
  | node (s : State) (n : NodeState) (h : NodeStep s n) : Micro c s (s.setNode n)
  | sensor (s : State) (p : SensorPort) (hb : s.conf.role = .bay)
      (hw : s.sensor.withheld ≤ Config.maxCount → p.withheld ≤ Config.maxCount) :
      Micro c s (s.setSensor p)
  | listenDue (s : State) (v : Option Nat) : Micro c s (s.setListenDue v)
  | tally (s : State) (u : TallyUnit) (h : TallyStep s u) : Micro c s (s.setTally u)
  | dli (s : State) (d : Dli) (h : DliStep s d) : Micro c s (s.setDli d)
  | rounds (s : State) (rc : RoundController) (h : RoundsStep s rc) : Micro c s (s.setRounds rc)
  | eval (s : State) (e : Evaluator) (hb : s.conf.role = .bay) (h : EvalStep s e) :
      Micro c s (s.setEval e)
  | taken (s : State) (x : QueuedCall) (rest : List QueuedCall) (hb : s.conf.role = .bay)
      (hq : s.eval.callQueue.length ≤ Config.maxCalls → rest.length ≤ Config.maxCalls)
      (hp : s.eval.inFlight ≠ none ∨ s.eval.callQueue ≠ [] ∨
        (s.MayPromise ∧ s.eval.congested = false)) :
      Micro c s
        ((s.setEval { s.eval with
          callQueue := rest
          inFlight := some { call := x, snapshot := s.snapshot, restarts := 0 } }).setHanded
            { s.handed with restart := false })
  | settled (s : State) : Micro c s s.settleRestart
  | vehicles (s : State) (y : TallyUnit) (t : LaneTable) (h : HandedOn) (hv : VehicleStep s y t h) :
      Micro c s (s.setVehicles y t h)

@[simp] theorem setVehicles_tally (y : TallyUnit) (t : LaneTable) (h : HandedOn) (s : State) :
    (s.setVehicles y t h).tally = y := rfl
@[simp] theorem setVehicles_table (y : TallyUnit) (t : LaneTable) (h : HandedOn) (s : State) :
    (s.setVehicles y t h).table = t := rfl
@[simp] theorem setVehicles_handed (y : TallyUnit) (t : LaneTable) (h : HandedOn) (s : State) :
    (s.setVehicles y t h).handed = h := rfl
theorem setVehicles_setVehicles (y z : TallyUnit) (t u : LaneTable) (h k : HandedOn) (s : State) :
    (s.setVehicles y t h).setVehicles z u k = s.setVehicles z u k := rfl

theorem handVehicle_eq (n : Nat) (s : State) :
    ((s.handRestart).handTally).handLane n = s.setHanded (s.handed.vehicle n) := rfl

theorem placeRecord_eq (l : Lane) (r : Record) (s : State) :
    s.placeRecord l r =
      s.setVehicles (s.tally.moved (r.mT l.conf) (r.mL l.conf)) (s.appended l r)
        (s.handed.vehicle l.number) := handVehicle_eq _ _

theorem removeRecord_eq (l : Lane) (r : Record) (s : State) :
    s.removeRecord l r =
      s.setVehicles (s.tally.moved (-(r.mT l.conf)) (-(r.mL l.conf)))
        (s.table.updateLane l.number (Lane.removeTail s.conf.gap r))
        (s.handed.vehicle l.number) := handVehicle_eq _ _

theorem removeInbound_eq (e : Inbound) (s : State) :
    s.removeInbound e =
      s.setVehicles (s.tally.moved (-(e.mT s.table)) (-e.mL))
        { s.table with inbound := s.table.inbound.erase e } s.handed := rfl

theorem addInbound_eq (e : Inbound) (s : State) :
    s.addInbound e =
      s.setVehicles (s.tally.moved (e.mT s.table) e.mL)
        { s.table with inbound := s.table.inbound ++ [e] } s.handed := rfl

/-! ### The vehicle steps by the operations that take them -/

section
variable {c : Instr} (s : State)

theorem Micro.relabelled (t : LaneTable) (hb : s.conf.role = .bay) (ht : s.table.Same s.handed t) :
    Micro c s (s.setTable t) := .vehicles s _ _ _ (.relabelled t hb ht)

theorem Micro.ranked (l : Lane) (rs : List Record) (hb : s.conf.role = .bay)
    (hl : l ∈ s.table.lanes) (hr : List.Forall₂ Record.Same l.placed rs) (hn : s.node ≠ .withdrawn)
    (hh : l.number ∈ s.handed.lanes) :
    Micro c s (s.updateLane l.number fun k => { k with placed := rs }) :=
  .vehicles s _ _ _ (.ranked l rs hb hl hr hn hh)

theorem Micro.released (f : Reservation → Bool) (hr : s.handed.restart = true) :
    Micro c s (s.setTable { s.table with reservations := s.table.reservations.filter f }) :=
  .vehicles s _ _ _ (.released f hr)

theorem Micro.reserved (v : Evaluation) (x : Choice) (hb : s.conf.role = .bay)
    (hv : s.eval.inFlight = some v) (hx : chooseLane s.conf v.snapshot v.call.arrival = some x)
    (hl : s.table.reservations.length < Config.maxReservations) (hr : s.handed.restart = false) :
    Micro c s
      (s.setTable { s.table with
        reservations := s.table.reservations ++ [v.call.reservation x s.conf.awardGrace] }).handRestart :=
  .vehicles s _ _ _ (.reserved v x hb hv hx hl hr)

theorem Micro.converted (r : Reservation) (due : Nat) (hm : r ∈ s.table.reservations)
    (hl : s.table.inbound.length < Config.maxInbound) (hr : s.handed.restart = true)
    (hi : s.handed.inbound = true) :
    Micro c s
      ((s.setTable { s.table with reservations := s.table.reservations.erase r }).addInbound
        (r.entry due)) :=
  .vehicles s _ _ _ (.converted r due hm hl hr hi)

theorem Micro.unexpected (l : Lane) (length : Int) (hl : l ∈ s.table.lanes)
    (hp : l.placed.length < Config.maxPlaced) (hn : s.node ≠ .withdrawn) :
    Micro c s (s.placeRecord l (unidentified s.conf.unidentifiedWeight length l.used)) := by
  rw [placeRecord_eq]
  exact .vehicles s _ _ _ (.unexpected l length hl hp hn _ rfl)

theorem Micro.matched (l : Lane) (e : Inbound) (misdirected : Bool) (due : Nat)
    (hl : l ∈ s.table.lanes) (he : e ∈ s.table.inbound)
    (hp : l.placed.length < Config.maxPlaced) (hn : s.node ≠ .withdrawn)
    (hi : s.handed.inbound = true) :
    Micro c s ((s.placeRecord l (matchedRecord s.table l e misdirected due)).removeInbound e) := by
  have h := Micro.vehicles (c := c) s _ _ _ (.matched l e misdirected due hl he hp hn hi _ rfl)
  rw [placeRecord_eq, removeInbound_eq, setVehicles_setVehicles,
    setVehicles_tally, setVehicles_table, setVehicles_handed]
  exact h

theorem Micro.left (l : Lane) (r : Record) (hl : l ∈ s.table.lanes) (hr : l.tail? = some r)
    (hn : s.node ≠ .withdrawn) : Micro c s (s.removeRecord l r) := by
  rw [removeRecord_eq]
  exact .vehicles s _ _ _ (.left l r hl hr hn)

theorem Micro.missing (e : Inbound) (he : e ∈ s.table.inbound) (hn : s.node ≠ .withdrawn)
    (hi : s.handed.inbound = true) : Micro c s (s.removeInbound e) :=
  .vehicles s _ _ _ (.missing e he hn hi)

end

/-- A chain of small steps. -/
abbrev Steps (c : Instr) : State → State → Prop := Relation.ReflTransGen (Micro c)

end Sys2Proof.Machine
end

section
/-! PROOFS. What the shared operations make of the state, written out: releases, raisings and port
advances in one equation each. -/

namespace Sys2Proof.Machine

open Sys2Proof

/-! ## Frames taken out of the transmit queue (R153, R154) -/

/-- A frame through `Dli.takeOut`. -/
def QFrame.taken (d : Dli) (sel : Payload → Bool) (f : QFrame) : Option QFrame :=
  if sel f.payload then (if d.carries f then some { f with leaving := true } else none) else some f

theorem takeOut_eq (sel : Payload → Bool) (d : Dli) :
    d.takeOut sel = { d with queue := d.queue.filterMap (QFrame.taken d sel) } := rfl

/-- With no frame selected nothing is taken out. -/
theorem takeOut_of_none {sel : Payload → Bool} {d : Dli}
    (h : ∀ f ∈ d.queue, sel f.payload = false) : d.takeOut sel = d := by
  have hq : d.queue.filterMap (QFrame.taken d sel) = d.queue := by
    refine (List.filterMap_congr (g := some) fun f hf => ?_).trans List.filterMap_some
    simp [QFrame.taken, h f hf]
  rw [takeOut_eq, hq]

/-- Frames taken out in two turns are taken out at once. -/
theorem takeOut_takeOut (sel sel' : Payload → Bool) (d : Dli) :
    (d.takeOut sel).takeOut sel' = d.takeOut fun p => sel p || sel' p := by
  have hq : ∀ f, (QFrame.taken d sel f).bind (QFrame.taken (d.takeOut sel) sel') =
      QFrame.taken d (fun p => sel p || sel' p) f := by
    intro f
    have hc : ∀ g : QFrame, (d.takeOut sel).carries g = d.carries g := fun _ => rfl
    have hl : d.carries { f with leaving := true } = d.carries f := rfl
    cases h : sel f.payload <;> cases h' : sel' f.payload <;> cases hd : d.carries f <;>
      simp [QFrame.taken, h, h', hd, hc, hl]
  simp only [takeOut_eq, List.filterMap_filterMap] at hq ⊢
  congr 1
  exact List.filterMap_congr fun f _ => hq f

/-! ## Releases (R89, R90) -/

/-- The reservations of some rounds released, with their OFFERs, and the restart that this calls for. -/
def State.released (rs : List RoundId) (s : State) : State :=
  ((s.setTable { s.table with
    reservations := s.table.reservations.filter fun x => !(rs.contains x.round) }).setDli
      (s.dli.offersOut ((s.table.reservations.filter fun x => rs.contains x.round).map (·.round))
        )).setHanded
    { s.handed with
      restart := s.handed.restart || s.table.reservations.any fun x => rs.contains x.round }

theorem State.released_nil (s : State) : s.released [] = s := by
  have hd : s.dli.offersOut [] = s.dli := takeOut_of_none fun _ _ => rfl
  have ha : (s.table.reservations.any fun x => ([] : List RoundId).contains x.round) = false := by
    simp
  have hk : s.table.reservations.filter (fun x => !(([] : List RoundId).contains x.round)) =
      s.table.reservations := by simp
  have hf : s.table.reservations.filter (fun x => ([] : List RoundId).contains x.round) = [] := by simp
  rw [State.released, hf, ha, hk, Bool.or_false, List.map_nil, hd]
  rfl

theorem releaseRound_eq (r : RoundId) (s : State) : s.releaseRound r = s.released [r] := by
  have ht := s.releaseRound_table r
  unfold State.releaseRound State.released
  split
  · rename_i h
    obtain ⟨x, hx, hr⟩ := List.any_eq_true.1 h
    have hd : s.dli.takeOut (Payload.isOfferFor r) =
        s.dli.offersOut ((s.table.reservations.filter fun x => [r].contains x.round).map (·.round)) := by
      refine congrArg s.dli.takeOut (funext fun p => ?_)
      rw [Bool.eq_iff_iff, List.any_eq_true]
      refine ⟨fun hp => ⟨r, List.mem_map.2 ⟨x, ?_, of_decide_eq_true hr⟩, hp⟩, ?_⟩
      · simpa [hx] using hr
      · rintro ⟨y, hy, hp⟩
        obtain ⟨z, hz, rfl⟩ := List.mem_map.1 hy
        have : z.round = r := by simpa using (List.mem_filter.1 hz).2
        exact this ▸ hp
    have ha : (s.table.reservations.any fun x => [r].contains x.round) = true :=
      List.any_eq_true.2 ⟨x, hx, by simpa using hr⟩
    rw [← hd, ha, Bool.or_true]
    simp [State.removeOffer, State.handRestart, State.setTable, State.setDli, State.setHanded]
  · rename_i h
    have hn : ∀ x ∈ s.table.reservations, x.round ≠ r := by simpa using h
    have hf : s.table.reservations.filter (fun x => [r].contains x.round) = [] := by
      simpa [List.filter_eq_nil_iff] using hn
    have ha : (s.table.reservations.any fun x => [r].contains x.round) = false := by
      simpa using hn
    have hk : s.table.reservations.filter (fun x => !([r].contains x.round)) =
        s.table.reservations := by
      rw [List.filter_eq_self]; intro x hx; simpa using hn x hx
    have hd : s.dli.offersOut [] = s.dli := takeOut_of_none fun _ _ => rfl
    rw [hf, ha, hk, Bool.or_false, List.map_nil, hd]
    rfl

theorem released_released (r : RoundId) (rs : List RoundId) (s : State) :
    (s.released [r]).released rs = s.released (r :: rs) := by
  unfold State.released
  simp only [State.setHanded_table, State.setDli_table, State.setTable_table, State.setHanded_dli,
    State.setDli_dli, State.setHanded_handed, List.filter_filter, List.any_filter, Dli.offersOut,
    takeOut_takeOut]
  have hf : (s.table.reservations.filter fun x => (!(rs.contains x.round)) && !([r].contains x.round)) =
      s.table.reservations.filter fun x => !((r :: rs).contains x.round) := by
    refine List.filter_congr fun x _ => ?_
    by_cases h : x.round = r <;> simp [h]
  have hd : (s.dli.takeOut fun p =>
      (((s.table.reservations.filter fun x => [r].contains x.round).map (·.round)).any fun k =>
        p.isOfferFor k) ||
      (((s.table.reservations.filter fun x => rs.contains x.round && !([r].contains x.round)).map
        (·.round)).any fun k => p.isOfferFor k)) =
      s.dli.takeOut fun p =>
        ((s.table.reservations.filter fun x => (r :: rs).contains x.round).map (·.round)).any fun k =>
          p.isOfferFor k := by
    refine congrArg s.dli.takeOut (funext fun p => ?_)
    rw [Bool.eq_iff_iff]
    simp only [Bool.or_eq_true, List.any_map, List.any_filter, List.any_eq_true,
      Function.comp_apply, Bool.and_eq_true, Bool.not_eq_true', List.contains_cons,
      List.contains_nil, Bool.or_false, beq_iff_eq]
    constructor
    · rintro (⟨x, hx, h, hp⟩ | ⟨x, hx, ⟨h, _⟩, hp⟩)
      · exact ⟨x, hx, .inl h, hp⟩
      · exact ⟨x, hx, .inr h, hp⟩
    · rintro ⟨x, hx, h, hp⟩
      by_cases hr : x.round = r
      · exact .inl ⟨x, hx, hr, hp⟩
      · exact .inr ⟨x, hx, ⟨h.resolve_left hr, by simpa using hr⟩, hp⟩
  have ha : (s.handed.restart || (s.table.reservations.any fun x => [r].contains x.round) ||
      s.table.reservations.any fun x => (!([r].contains x.round)) && rs.contains x.round) =
      (s.handed.restart || s.table.reservations.any fun x => (r :: rs).contains x.round) := by
    rw [Bool.or_assoc, Bool.eq_iff_iff]
    simp only [Bool.or_eq_true, List.any_eq_true, Bool.and_eq_true, List.contains_cons,
      List.contains_nil, Bool.or_false, beq_iff_eq, Bool.not_eq_true']
    refine or_congr Iff.rfl ⟨?_, ?_⟩
    · rintro (⟨x, hx, h⟩ | ⟨x, hx, _, h⟩)
      · exact ⟨x, hx, .inl h⟩
      · exact ⟨x, hx, .inr h⟩
    · rintro ⟨x, hx, h⟩
      by_cases hr : x.round = r
      · exact .inl ⟨x, hx, hr⟩
      · exact .inr ⟨x, hx, by simpa using hr, h.resolve_left hr⟩
  rw [hf, hd, ha]
  rfl

theorem foldl_release_eq (rs : List RoundId) (s : State) :
    rs.foldl (fun st r => st.releaseRound r) s = s.released rs := by
  induction rs generalizing s with
  | nil => exact s.released_nil.symm
  | cons r rs ih => rw [List.foldl_cons, ih, releaseRound_eq, released_released]

/-- The release of everything (R159, R170, R172). -/
theorem releaseAll_eq (s : State) :
    s.releaseAll =
      ((s.setTable { s.table with reservations := [] }).setDli
        (s.dli.offersOut (s.table.reservations.map (·.round)))).setHanded
        { s.handed with restart := s.handed.restart || !s.table.reservations.isEmpty } := by
  have hm : ∀ x ∈ s.table.reservations, (s.table.reservations.map (·.round)).contains x.round = true :=
    fun x hx => List.contains_iff_mem.2 (List.mem_map.2 ⟨x, hx, rfl⟩)
  have hk : s.table.reservations.filter
      (fun x => !((s.table.reservations.map (·.round)).contains x.round)) = [] := by
    rw [List.filter_eq_nil_iff]; intro x hx; simp only [hm x hx, Bool.not_true]; decide
  have hf : s.table.reservations.filter
      (fun x => (s.table.reservations.map (·.round)).contains x.round) = s.table.reservations :=
    List.filter_eq_self.2 hm
  have ha : (s.table.reservations.any fun x =>
      (s.table.reservations.map (·.round)).contains x.round) = !s.table.reservations.isEmpty := by
    cases h : s.table.reservations with
    | nil => rfl
    | cons x xs => simp
  unfold State.releaseAll
  rw [foldl_release_eq, State.released, hk, hf, ha]

/-! ## Raisings (R164) -/

/-- Several conditions raised, one after the other. -/
def raiseAll (now : Nat) (ks : List (Code × Option Nat)) (cs : List Condition) : List Condition :=
  ks.foldl (fun cs k => raiseCondition now k.1 k.2 cs) cs

theorem foldl_raise_eq (ks : List (Code × Option Nat)) (s : State) :
    ks.foldl (fun st k => st.raise k.1 k.2) s = s.setConditions (raiseAll s.now ks s.conditions) := by
  induction ks generalizing s with
  | nil => rfl
  | cons k ks ih => rw [List.foldl_cons, ih]; rfl

theorem foldl_raise_code_eq (code : Code) (ns : List Nat) (s : State) :
    ns.foldl (fun st n => st.raise code (some n)) s =
      s.setConditions (raiseAll s.now (ns.map fun n => (code, some n)) s.conditions) := by
  rw [← foldl_raise_eq, List.foldl_map]

theorem raiseAll_append (now : Nat) (ks qs : List (Code × Option Nat)) (cs : List Condition) :
    raiseAll now (ks ++ qs) cs = raiseAll now qs (raiseAll now ks cs) := List.foldl_append

/-! ## Port advances (R147, R148) -/

/-- The lanes at which `d` port advances in turn raise OVERCARRIED (R147). -/
def overcarriedIn : Nat → LaneTable → List Nat
  | 0, _ => []
  | d + 1, t => t.overcarriedLanes ++ overcarriedIn d t.advance

theorem portAdvances_eq (d : Nat) (s : State) :
    s.portAdvances d =
      ((s.setConditions (raiseAll s.now ((overcarriedIn d s.table).map fun n => (.overcarried, some n))
        s.conditions)).setTable (LaneTable.advance^[d] s.table)).setEval
          (Evaluator.advance^[d] s.eval) := by
  induction d generalizing s with
  | zero => rfl
  | succ d ih =>
    have hp : s.portAdvance =
        ((s.setConditions (raiseAll s.now (s.table.overcarriedLanes.map fun n =>
          (.overcarried, some n)) s.conditions)).setTable s.table.advance).setEval s.eval.advance := by
      unfold State.portAdvance
      rw [foldl_raise_code_eq]
    rw [State.portAdvances, ih, hp, overcarriedIn, List.map_append, raiseAll_append]
    rfl

/-! ## What stands through an operation -/

@[simp] theorem raise_now (code : Code) (lane : Option Nat) (s : State) :
    (s.raise code lane).now = s.now := rfl
@[simp] theorem raise_conf (code : Code) (lane : Option Nat) (s : State) :
    (s.raise code lane).conf = s.conf := rfl
@[simp] theorem raise_node (code : Code) (lane : Option Nat) (s : State) :
    (s.raise code lane).node = s.node := rfl
@[simp] theorem raise_life (code : Code) (lane : Option Nat) (s : State) :
    (s.raise code lane).life = s.life := rfl
@[simp] theorem raise_table (code : Code) (lane : Option Nat) (s : State) :
    (s.raise code lane).table = s.table := rfl
@[simp] theorem raise_eval (code : Code) (lane : Option Nat) (s : State) :
    (s.raise code lane).eval = s.eval := rfl
@[simp] theorem raise_tally (code : Code) (lane : Option Nat) (s : State) :
    (s.raise code lane).tally = s.tally := rfl
@[simp] theorem raise_dli (code : Code) (lane : Option Nat) (s : State) :
    (s.raise code lane).dli = s.dli := rfl
@[simp] theorem raise_rounds (code : Code) (lane : Option Nat) (s : State) :
    (s.raise code lane).rounds = s.rounds := rfl
@[simp] theorem raise_sensor (code : Code) (lane : Option Nat) (s : State) :
    (s.raise code lane).sensor = s.sensor := rfl
@[simp] theorem raise_retained (code : Code) (lane : Option Nat) (s : State) :
    (s.raise code lane).retained = s.retained := rfl
@[simp] theorem raise_handed (code : Code) (lane : Option Nat) (s : State) :
    (s.raise code lane).handed = s.handed := rfl
@[simp] theorem State.handIn_conf (p : Payload) (s : State) : (s.handIn p).conf = s.conf :=
  (congrArg State.conf (s.handIn_frame p) :)
@[simp] theorem handIn_node (p : Payload) (s : State) : (s.handIn p).node = s.node :=
  (congrArg State.node (s.handIn_frame p) :)
@[simp] theorem handIn_table (p : Payload) (s : State) : (s.handIn p).table = s.table :=
  (congrArg State.table (s.handIn_frame p) :)
@[simp] theorem handIn_eval (p : Payload) (s : State) : (s.handIn p).eval = s.eval :=
  (congrArg State.eval (s.handIn_frame p) :)
@[simp] theorem handIn_rounds (p : Payload) (s : State) : (s.handIn p).rounds = s.rounds :=
  (congrArg State.rounds (s.handIn_frame p) :)
@[simp] theorem catchUp_conf (k : Byte) (s : State) : (s.catchUp k).conf = s.conf :=
  (congrArg State.conf (s.catchUp_frame k) :)
@[simp] theorem catchUp_node (k : Byte) (s : State) : (s.catchUp k).node = s.node :=
  (congrArg State.node (s.catchUp_frame k) :)
@[simp] theorem catchUp_life (k : Byte) (s : State) : (s.catchUp k).life = s.life :=
  (congrArg State.life (s.catchUp_frame k) :)
@[simp] theorem catchUp_rounds (k : Byte) (s : State) : (s.catchUp k).rounds = s.rounds :=
  (congrArg State.rounds (s.catchUp_frame k) :)
@[simp] theorem catchUp_dli (k : Byte) (s : State) : (s.catchUp k).dli = s.dli :=
  (congrArg State.dli (s.catchUp_frame k) :)

end Sys2Proof.Machine
end

section
/-! PROOFS. Every command is a chain of small steps and then the end of its event: one lemma per operation
of the model, along its definition. -/

namespace Sys2Proof.Machine

open Sys2Proof

variable {c : Instr} {s : State}

/-! ## What is handed on and put out -/

theorem HandedOn.Grows.refl (h : HandedOn) : h.Grows h := ⟨id, List.Subset.refl _, id, id⟩

theorem Outputs.Grows.refl (o : Outputs) : o.Grows o :=
  ⟨List.prefix_rfl, List.prefix_rfl, List.prefix_rfl, Nat.le_refl _, Nat.le_refl _⟩

theorem handRestart_steps : Steps c s s.handRestart :=
  .single (.hand s _ ⟨fun _ => rfl, List.Subset.refl _, id, id⟩)

theorem handTally_steps : Steps c s s.handTally :=
  .single (.hand s _ ⟨id, List.Subset.refl _, id, id⟩)

theorem handLane_steps (n : Nat) : Steps c s (s.handLane n) :=
  .single (.hand s _ ⟨id, List.subset_append_left _ _, id, id⟩)

theorem handAllLanes_steps : Steps c s s.handAllLanes :=
  .single (.hand s _ ⟨id, List.subset_append_left _ _, id, id⟩)

theorem handInbound_steps : Steps c s s.handInbound :=
  .single (.hand s _ ⟨id, List.Subset.refl _, fun _ => rfl, id⟩)

theorem handNode_steps : Steps c s s.handNode :=
  .single (.hand s _ ⟨id, List.Subset.refl _, id, fun _ => rfl⟩)

theorem handLook_steps : Steps c s s.handLook :=
  .single (.hand s _ ⟨id, List.Subset.refl _, id, id⟩)

theorem handDrops_steps (ds : List Drop) : Steps c s (s.handDrops ds) :=
  .single (.hand s _ ⟨id, List.Subset.refl _, id, id⟩)

theorem foldl_handLane_eq (ns : List Nat) (s : State) :
    ns.foldl (fun st n => st.handLane n) s =
      s.setHanded { s.handed with lanes := s.handed.lanes ++ ns } := by
  induction ns generalizing s with
  | nil => simp [State.setHanded]
  | cons n ns ih => rw [List.foldl_cons, ih]; simp [State.handLane, State.setHanded]

theorem handStates_eq (ns : List Nat) (s : State) :
    s.handStates ns =
      s.setHanded { s.handed with
        tally := s.handed.tally || !ns.isEmpty, lanes := s.handed.lanes ++ ns } := by
  cases ns with
  | nil => simp [State.handStates, State.setHanded]
  | cons n ns =>
    rw [State.handStates, foldl_handLane_eq]
    simp [State.handTally, State.setHanded]

theorem handStates_steps (ns : List Nat) : Steps c s (s.handStates ns) := by
  rw [handStates_eq]
  exact .single (.hand s _ ⟨id, List.subset_append_left _ _, id, id⟩)

theorem out_steps {o : Outputs} (hg : s.out.Grows o) (hd : o.deck = s.out.deck) :
    Steps c s (s.setOut o) := .single (.out s o hg (.inl hd))

theorem answer_steps (a : Answer) : Steps c s (s.answer a) :=
  out_steps { Outputs.Grows.refl s.out with panel := List.prefix_append _ _ } rfl

theorem dispose_steps (b : Nat) (v : Verdict) : Steps c s (s.dispose b v) :=
  out_steps { Outputs.Grows.refl s.out with gate := List.prefix_append _ _ } rfl

theorem acknowledge_steps : Steps c s s.acknowledge :=
  out_steps { Outputs.Grows.refl s.out with acks := Nat.le_succ _ } rfl

theorem reach_steps (due : Nat) : Steps c s (s.reach due) :=
  .single (.clock s _ (Nat.le_max_left _ _))

theorem raise_steps (code : Code) (lane : Option Nat) : Steps c s (s.raise code lane) :=
  .single (.raised s code lane)

theorem raiseAll_steps (ks : List (Code × Option Nat)) :
    Steps c s (s.setConditions (raiseAll s.now ks s.conditions)) := by
  rw [← foldl_raise_eq]
  induction ks generalizing s with
  | nil => exact .refl
  | cons k ks ih => exact (raise_steps k.1 k.2).trans ih

/-! ## The Deck Line Interface and the Tally Unit -/

theorem handIn_steps {p : Payload} (hp : s.Sends p) : Steps c s (s.handIn p) := by
  rcases s.handIn_cases p with ⟨_, h⟩ | ⟨hl, h⟩ <;> rw [h]
  · exact handDrops_steps _
  · exact .head (.dli s _ (.put p hl hp)) (handDrops_steps _)

theorem takeOut_steps (sel : Payload → Bool) : Steps c s (s.setDli (s.dli.takeOut sel)) :=
  .single (.dli s _ (.takeOut sel))

theorem countBuild_steps : Steps c s s.countBuild :=
  handNode_steps.tail (.tally s.handNode _ (.built rfl))

theorem buildTally_steps (hb : s.conf.role = .bay) : Steps c s s.buildTally :=
  countBuild_steps.trans (handIn_steps (by simp [State.Sends, Payload.fromBay,
    State.countBuild, State.handNode, hb]))

theorem causeTally_steps (hb : s.conf.role = .bay) : Steps c s s.causeTally := by
  rcases s.causeTally_cases with ⟨_, _, h⟩ | ⟨_, h⟩ <;> rw [h]
  · exact buildTally_steps hb
  · exact .single (.tally s _ .pending)

/-! ## Lanes and records in their places -/

theorem Record.Same.refl (r : Record) : r.Same r := ⟨rfl, rfl, rfl, rfl, rfl, rfl, id⟩

theorem Lane.Same.refl (l : Lane) : l.Same l :=
  ⟨rfl, rfl, rfl, rfl, List.forall₂_same.2 fun r _ => .refl r⟩

theorem Arrival.Same.refl (a : Arrival) : a.Same a := ⟨rfl, rfl, rfl, Nat.le_refl _⟩

theorem Reservation.Same.refl (r : Reservation) : r.Same r := ⟨rfl, rfl, .refl _⟩

theorem Inbound.Same.refl (e : Inbound) : e.Same e := ⟨rfl, rfl, rfl, rfl, .refl _⟩

/-- A table with lanes of the same places. -/
theorem same_of_lanes {h : HandedOn} {t : LaneTable} {ls : List Lane}
    (hl : List.Forall₂ Lane.Same t.lanes ls)
    (hc : t.Distinct → List.Forall₂ (Lane.CopyHanded h) t.lanes ls) :
    t.Same h { t with lanes := ls } :=
  ⟨hl, hc, List.forall₂_same.2 fun r _ => .refl r, .inl rfl, List.forall₂_same.2 fun e _ => .refl e,
    .inl rfl⟩

/-- A lane in its place whose changed copy is handed on. -/
structure Lane.Kept (h : HandedOn) (k l : Lane) : Prop where
  same : k.Same l
  copy : k.CopyHanded h l

theorem Lane.Kept.refl (h : HandedOn) (l : Lane) : l.Kept h l := ⟨.refl l, .inl rfl⟩

theorem same_map {h : HandedOn} {t : LaneTable} {f : Lane → Lane}
    (hf : ∀ l ∈ t.lanes, l.Kept h (f l)) : t.Same h { t with lanes := t.lanes.map f } :=
  same_of_lanes
    (List.forall₂_map_right_iff.2 (List.forall₂_same.2 fun l hl => (hf l hl).same))
    fun _ => List.forall₂_map_right_iff.2 (List.forall₂_same.2 fun l hl => (hf l hl).copy)

theorem same_updateLane {h : HandedOn} {t : LaneTable} {n : Nat} {f : Lane → Lane}
    (hf : ∀ l ∈ t.lanes, l.number = n → l.Kept h (f l)) : t.Same h (t.updateLane n f) :=
  same_map fun l hl => by
    by_cases hn : l.number = n
    · rw [if_pos hn]; exact hf l hl hn
    · rw [if_neg hn]; exact .refl h l

/-- A lane with another mark. -/
theorem kept_mark (h : HandedOn) (l : Lane) (b : Bool) : l.Kept h { l with suspect := b } :=
  ⟨{ Lane.Same.refl l with }, .inl rfl⟩

/-- A lane with another stored state and mark, handed on. -/
theorem kept_stored {h : HandedOn} {l : Lane} (hn : l.number ∈ h.lanes) (st : LaneState) (b : Bool) :
    l.Kept h { l with stored := st, suspect := b } :=
  ⟨{ Lane.Same.refl l with }, .inr hn⟩

/-- A lane with records of the same places, handed on. -/
theorem kept_placed {h : HandedOn} {l : Lane} (hn : l.number ∈ h.lanes) {rs : List Record}
    (hr : List.Forall₂ Record.Same l.placed rs) : l.Kept h { l with placed := rs } :=
  ⟨{ Lane.Same.refl l with placed := hr }, .inr hn⟩

theorem relabel_steps (hb : s.conf.role = .bay) {t : LaneTable} (ht : s.table.Same s.handed t) :
    Steps c s (s.setTable t) := .single (.relabelled s t hb ht)

/-- A lane update handed on first. -/
theorem updateLane_steps (hb : s.conf.role = .bay) {n : Nat} {f : Lane → Lane}
    (hf : ∀ l ∈ s.table.lanes, l.number = n → l.Kept s.handed (f l)) :
    Steps c s (s.updateLane n f) := relabel_steps hb (same_updateLane hf)

/-! ## Port advances (R147) -/

theorem Record.same_advance (r : Record) : r.Same r.advance := by
  unfold Record.advance
  split
  · exact .refl r
  · exact { Record.Same.refl r with }
  · rename_i k hk
    refine { Record.Same.refl r with rank := fun h => ?_ }
    have := h (k + 1) hk
    intro m hm
    obtain rfl : k = m := by simpa using hm
    omega

theorem Arrival.same_advance (a : Arrival) : a.Same a.advance :=
  ⟨rfl, rfl, rfl, Nat.sub_le _ _⟩

theorem LaneTable.same_advance {h : HandedOn} {t : LaneTable} (hr : h.restart = true)
    (hl : ∀ l ∈ t.lanes, l.number ∈ h.lanes) (hi : h.inbound = true) : t.Same h t.advance :=
  have hlanes : t.Same h { t with
      lanes := t.lanes.map fun l => { l with placed := l.placed.map Record.advance } } :=
    same_map fun l hm => kept_placed (hl l hm)
      (List.forall₂_map_right_iff.2 (List.forall₂_same.2 fun r _ => r.same_advance))
  { lanes := hlanes.lanes
    copies := hlanes.copies
    reservations := List.forall₂_map_right_iff.2 (List.forall₂_same.2 fun r _ =>
      ⟨rfl, rfl, r.arrival.same_advance⟩)
    held := .inr hr
    inbound := List.forall₂_map_right_iff.2 (List.forall₂_same.2 fun e _ =>
      ⟨rfl, rfl, rfl, rfl, e.arrival.same_advance⟩)
    copy := .inr hi }

theorem advance_numbers (t : LaneTable) :
    t.advance.lanes.map (·.number) = t.lanes.map (·.number) := by
  simp [LaneTable.advance, Function.comp_def]

theorem advances_numbers (d : Nat) (t : LaneTable) :
    (LaneTable.advance^[d] t).lanes.map (·.number) = t.lanes.map (·.number) := by
  induction d generalizing t with
  | zero => rfl
  | succ d ih => rw [Function.iterate_succ_apply, ih, advance_numbers]

theorem portAdvance_eq (s : State) :
    s.portAdvance =
      ((s.setConditions (raiseAll s.now (s.table.overcarriedLanes.map fun n =>
        (.overcarried, some n)) s.conditions)).setTable s.table.advance).setEval s.eval.advance := by
  unfold State.portAdvance
  rw [foldl_raise_code_eq]

theorem portAdvances_steps (hb : s.conf.role = .bay) (hr : s.handed.restart = true)
    (hl : ∀ l ∈ s.table.lanes, l.number ∈ s.handed.lanes) (hi : s.handed.inbound = true) (d : Nat) :
    Steps c s (s.portAdvances d) := by
  induction d generalizing s with
  | zero => exact .refl
  | succ d ih =>
    have hone : Steps c s s.portAdvance := by
      rw [portAdvance_eq]
      refine (raiseAll_steps (s.table.overcarriedLanes.map fun n =>
        (.overcarried, some n))).trans ?_
      generalize hu : s.setConditions _ = u
      have hut : u.table = s.table ∧ u.eval = s.eval ∧ u.handed = s.handed ∧ u.conf = s.conf := by
        rw [← hu]; exact ⟨rfl, rfl, rfl, rfl⟩
      obtain ⟨ht, he, hh, hc⟩ := hut
      rw [← ht, ← he]
      rw [← hc] at hb
      rw [← ht] at hl
      rw [← hh] at hr hl hi
      exact (relabel_steps hb (LaneTable.same_advance hr hl hi)).tail
        (.eval (u.setTable u.table.advance) _ hb (.advanced hr))
    refine hone.trans (ih ?_ ?_ ?_ ?_) <;> rw [portAdvance_eq]
    · exact hb
    · exact hr
    · intro l hm
      obtain ⟨k, hk, rfl⟩ := List.mem_map.1 hm
      exact hl k hk
    · exact hi

theorem setTally_called_steps (k : Byte) (hn : s.handed.node = true) :
    Steps c s (s.setTally { s.tally with callNumber := k }) := .single (.tally s _ (.called hn k))

/-- A catch-up, with what it hands on handed on first (R145, R148). -/
theorem catchUp_bay_eq {k : Byte} (hk : leads k s.tally.callNumber = true)
    (hb : s.conf.role = .bay) :
    s.catchUp k =
      (s.handRestart.handAllLanes.handInbound.handNode.portAdvances
        (k - s.tally.callNumber).toNat).setTally { s.tally with callNumber := k } := by
  unfold State.catchUp
  rw [if_pos hk]
  simp only [hb]
  rw [portAdvances_eq, portAdvances_eq]
  simp only [State.handAllLanes, State.handRestart, State.setEval_table, State.setTable_table,
    State.setHanded_table, advances_numbers]
  rfl

theorem catchUp_ramp_eq {k : Byte} (hk : leads k s.tally.callNumber = true)
    (hb : s.conf.role = .ramp) :
    s.catchUp k = s.handNode.setTally { s.tally with callNumber := k } := by
  unfold State.catchUp
  rw [if_pos hk]
  simp only [hb]
  rfl

theorem catchUp_of_not_leads {k : Byte} (hk : leads k s.tally.callNumber = false) :
    s.catchUp k = s := by
  unfold State.catchUp
  simp [hk]

theorem catchUp_steps (k : Byte) : Steps c s (s.catchUp k) := by
  cases hk : leads k s.tally.callNumber with
  | false => rw [catchUp_of_not_leads hk]
  | true =>
    cases hb : s.conf.role with
    | bay =>
      rw [catchUp_bay_eq hk hb]
      have hp := portAdvances_steps (c := c)
        (s := s.handRestart.handAllLanes.handInbound.handNode) hb rfl
        (fun l hl => List.mem_append_right _ (List.mem_map.2 ⟨l, hl, rfl⟩)) rfl
        (k - s.tally.callNumber).toNat
      have ht := portAdvances_eq (k - s.tally.callNumber).toNat
        s.handRestart.handAllLanes.handInbound.handNode
      refine (handRestart_steps.trans (handAllLanes_steps.trans
        (handInbound_steps.trans handNode_steps))).trans (hp.trans ?_)
      rw [ht]
      exact setTally_called_steps (c := c) k rfl
    | ramp =>
      rw [catchUp_ramp_eq hk hb]
      exact handNode_steps.trans (setTally_called_steps (c := c) k rfl)

/-! ## The Call Evaluator -/

theorem liveCalls_suffix (now : Nat) (q : List QueuedCall) : liveCalls now q <:+ q :=
  List.dropWhile_suffix _

/-- The evaluation in flight ends and the next CALL is taken (R69). -/
theorem moveOn_steps (hb : s.conf.role = .bay) (hv : s.eval.inFlight ≠ none) :
    Steps c s s.endEvaluation.takeNextCall := by
  rcases s.endEvaluation.takeNextCall_cases with ⟨_, hn, _⟩ | ⟨_, _, h⟩ | ⟨x, rest, _, hq, h⟩
  · cases hn
  · rw [h]; exact .single (.eval s _ hb .idled)
  · rw [h]
    refine .single (.taken s x rest hb (fun hle => ?_) (.inl hv))
    have := (liveCalls_suffix s.now s.eval.callQueue).length_le
    have hlen : (liveCalls s.now s.eval.callQueue).length = rest.length + 1 := by
      rw [show liveCalls s.now s.eval.callQueue = x :: rest from hq, List.length_cons]
    omega

theorem abandonAll_steps (hb : s.conf.role = .bay) : Steps c s s.abandonAll :=
  .single (.eval s _ hb .idled)

theorem releaseRound_steps (r : RoundId) : Steps c s (s.releaseRound r) := by
  unfold State.releaseRound
  split
  · exact handRestart_steps.trans (.head (.released s.handRestart _ rfl)
      (takeOut_steps (Payload.isOfferFor r)))
  · exact .refl

theorem released_steps (rs : List RoundId) : Steps c s (s.released rs) := by
  rw [← foldl_release_eq]
  induction rs generalizing s with
  | nil => exact .refl
  | cons r rs ih => exact (releaseRound_steps r).trans ih

theorem releaseAll_steps : Steps c s s.releaseAll := by
  unfold State.releaseAll
  rw [foldl_release_eq]
  exact released_steps _

/-- The three outcomes of the congestion gate, the change handed on first (R78, R79). -/
theorem State.followCongestion_cases (s : State) :
    (s.followCongestion = s) ∨
    (s.followCongestion =
      (s.setEval { s.eval with inFlight := none, callQueue := [], congested := true }).handTally) ∨
    (s.followCongestion = (s.setEval { s.eval with congested := false }).handTally) := by
  unfold State.followCongestion
  dsimp only
  split
  · exact .inl rfl
  · split
    · exact .inr (.inl rfl)
    · exact .inr (.inr rfl)

theorem congestion_steps (hb : s.conf.role = .bay)
    (h : s.node ≠ .withdrawn ∨ s.table.reservations ≠ []) {e : Evaluator}
    (he : e = { s.eval with inFlight := none, callQueue := [], congested := true } ∨
      e = { s.eval with congested := false }) : Steps c s (s.setEval e).handTally := by
  refine .head (.eval s e hb ?_) handTally_steps
  rcases he with rfl | rfl
  · exact .congested h
  · exact .eased h

theorem followCongestion_steps (hb : s.conf.role = .bay) (h : s.node ≠ .withdrawn) :
    Steps c s s.followCongestion := by
  rcases s.followCongestion_cases with he | he | he <;> rw [he]
  · exact congestion_steps hb (.inl h) (.inl rfl)
  · exact congestion_steps hb (.inl h) (.inr rfl)

theorem closeOlderRounds_steps (hb : s.conf.role = .bay) (r : RoundId) :
    Steps c s (s.closeOlderRounds r) := by
  unfold State.closeOlderRounds
  rw [foldl_release_eq]
  generalize hu : s.released _ = u
  have hub : u.conf.role = .bay := by rw [← hu]; exact hb
  refine (hu ▸ released_steps _ : Steps c s u).trans ?_
  refine .head (.eval u _ hub (.closed fun x => !(olderRound r x.round))) ?_
  dsimp only
  split
  · exact .refl
  · rename_i v hv
    split
    · exact moveOn_steps hub (by rw [hv]; exact Option.some_ne_none v)
    · exact .refl

theorem queueCall_steps (hb : s.conf.role = .bay) (x : QueuedCall)
    (hp : s.MayPromise ∧ s.eval.congested = false) : Steps c s (s.queueCall x) := by
  unfold State.queueCall
  split
  · rename_i hlen
    rcases (s.setEval { s.eval with callQueue := s.eval.callQueue ++ [x] }).takeNextCall_cases with
      ⟨v, hv, h⟩ | ⟨hn, _, h⟩ | ⟨y, rest, hn, hq, h⟩
    · rw [h]
      refine .single (.eval s _ hb (.queued x ?_ hlen))
      rw [show s.eval.inFlight = some v from hv]; exact Option.some_ne_none v
    · rw [h]
      have he : (s.setEval { s.eval with callQueue := s.eval.callQueue ++ [x] }).setEval
          { s.eval with callQueue := [] } =
          s.setEval { s.eval with inFlight := none, callQueue := [] } := by
        rw [← show s.eval.inFlight = none from hn]; rfl
      exact he ▸ .single (.eval s _ hb .idled)
    · rw [h]
      refine .single (.taken s y rest hb (fun _ => ?_) (.inr (.inr hp)))
      have := (liveCalls_suffix s.now (s.eval.callQueue ++ [x])).length_le
      have hl : (liveCalls s.now (s.eval.callQueue ++ [x])).length = rest.length + 1 := by
        rw [show liveCalls s.now (s.eval.callQueue ++ [x]) = y :: rest from hq, List.length_cons]
      rw [List.length_append] at this
      simp only [List.length_cons, List.length_nil] at this
      omega
  · exact .single (.eval s _ hb (.dropped _ fun h => by split <;> omega))

/-- Closing older rounds leaves the node, its line, its role and its congestion (R67). -/
theorem State.closeOlderRounds_stands (r : RoundId) (s : State) :
    (s.closeOlderRounds r).conf = s.conf ∧ (s.closeOlderRounds r).node = s.node ∧
      (s.closeOlderRounds r).dli.line = s.dli.line ∧
      (s.closeOlderRounds r).eval.congested = s.eval.congested ∧
      (s.closeOlderRounds r).now = s.now := by
  unfold State.closeOlderRounds
  rw [foldl_release_eq]
  dsimp only
  split
  · exact ⟨rfl, rfl, rfl, rfl, rfl⟩
  · split
    · generalize hu : State.endEvaluation _ = u
      have h := u.takeNextCall_cases
      have hu' : u.conf = s.conf ∧ u.node = s.node ∧ u.dli.line = s.dli.line ∧
          u.eval.congested = s.eval.congested ∧ u.now = s.now := by
        rw [← hu]; exact ⟨rfl, rfl, rfl, rfl, rfl⟩
      rcases h with ⟨_, _, h⟩ | ⟨_, _, h⟩ | ⟨_, _, _, _, h⟩ <;> rw [h] <;> exact hu'
    · exact ⟨rfl, rfl, rfl, rfl, rfl⟩

theorem takeCall_steps (hb : s.conf.role = .bay) (k : Byte) (p : CallPayload) :
    Steps c s (s.takeCall k p) := by
  unfold State.takeCall
  split
  · refine .head (.eval s _ hb (.known (s.eval.roundRecord.set p.round.ramp p.round.seq))) ?_
    dsimp only
    generalize hu : s.setEval _ = u
    have hub : u.conf.role = .bay := by rw [← hu]; exact hb
    split
    · exact .refl
    · rename_i ha
      obtain ⟨hconf, hnode, hline, hcong, _⟩ := u.closeOlderRounds_stands p.round
      refine (closeOlderRounds_steps hub p.round).trans
        (queueCall_steps (by rw [hconf]; exact hub) _ ?_)
      simp only [State.turnsAway, Bool.or_eq_true, decide_eq_true_eq, not_or, not_not,
        Bool.not_eq_true] at ha
      obtain ⟨⟨⟨⟨hact, hsil⟩, hco⟩, _⟩, _⟩ := ha
      refine ⟨⟨by rw [hconf]; exact hub, by rw [hnode, ← hu]; exact hact, ?_⟩,
        by rw [hcong, ← hu]; exact hco⟩
      rw [hline, ← hu]
      cases h : s.dli.line with
      | normal => exact h
      | silent => exact absurd h hsil
  · exact .refl

/-! ## Placement -/

/-- A reservation converted, and the change handed on, before the congestion state follows (R92). -/
def State.convertedFrom (r : Reservation) (s : State) : State :=
  ((((s.setTable { s.table with reservations := s.table.reservations.erase r }).addInbound
    (r.entry (s.now + 1000 * s.conf.travelLimit))).handRestart).handTally).handInbound

theorem convert_eq (r : Reservation) (s : State) :
    s.convert r = (s.convertedFrom r).followCongestion := rfl

theorem convertedFrom_steps {r : Reservation} (hm : r ∈ s.table.reservations)
    (hl : s.table.inbound.length < Config.maxInbound) : Steps c s (s.convertedFrom r) := by
  have h := Micro.converted (c := c) s.handRestart.handTally.handInbound r
    (s.now + 1000 * s.conf.travelLimit) hm hl rfl rfl
  exact (handRestart_steps.trans (handTally_steps.trans handInbound_steps)).tail h

theorem convert_steps (hb : s.conf.role = .bay) {r : Reservation}
    (hm : r ∈ s.table.reservations) (hl : s.table.inbound.length < Config.maxInbound) :
    Steps c s (s.convert r) := by
  have hne : s.table.reservations ≠ [] := List.ne_nil_of_mem hm
  rw [convert_eq]
  have hconv : ∀ e : Evaluator, Steps c (s.setEval e).handTally
      (((s.setEval e).handTally).convertedFrom r) :=
    fun e => convertedFrom_steps (s := (s.setEval e).handTally) hm hl
  have hgate : ∀ e, _ → Steps c s (s.setEval e).handTally :=
    fun e => congestion_steps hb (.inr hne)
  rcases (s.convertedFrom r).followCongestion_cases with h | h | h <;> rw [h]
  · exact convertedFrom_steps hm hl
  · exact (hgate _ (.inl rfl)).trans (hconv _)
  · exact (hgate _ (.inr rfl)).trans (hconv _)

theorem placeUnidentified_steps {l : Lane} (hl : l ∈ s.table.lanes)
    (hp : l.placed.length < Config.maxPlaced) (hn : s.node ≠ .withdrawn) (length : Int) :
    Steps c s (s.placeUnidentified l length) := by
  have h := Micro.unexpected (c := c) s l length hl hp hn
  exact .head h (raise_steps _ _)

theorem raiseIf_steps (p : Prop) [Decidable p] (code : Code) (lane : Option Nat) :
    Steps c s (if p then s.raise code lane else s) := by
  split
  · exact raise_steps code lane
  · exact .refl

theorem raiseIf_conf (p : Prop) [Decidable p] (code : Code) (lane : Option Nat) (s : State) :
    (if p then s.raise code lane else s).conf = s.conf := by
  split <;> rfl

@[simp] theorem placeRecord_conf (l : Lane) (r : Record) (s : State) :
    (s.placeRecord l r).conf = s.conf := rfl
@[simp] theorem placeRecord_node (l : Lane) (r : Record) (s : State) :
    (s.placeRecord l r).node = s.node := rfl
@[simp] theorem removeRecord_conf (l : Lane) (r : Record) (s : State) :
    (s.removeRecord l r).conf = s.conf := rfl
@[simp] theorem removeRecord_node (l : Lane) (r : Record) (s : State) :
    (s.removeRecord l r).node = s.node := rfl
@[simp] theorem removeInbound_conf (e : Inbound) (s : State) :
    (s.removeInbound e).conf = s.conf := rfl
@[simp] theorem removeInbound_node (e : Inbound) (s : State) :
    (s.removeInbound e).node = s.node := rfl
theorem placeMatched_steps (hb : s.conf.role = .bay) {l : Lane} (hl : l ∈ s.table.lanes)
    {e : Inbound} (he : e ∈ s.table.inbound) (hp : l.placed.length < Config.maxPlaced)
    (hn : s.node ≠ .withdrawn) (misdirected : Bool) : Steps c s (s.placeMatched l e misdirected) := by
  have hone := Micro.matched (c := c) s.handInbound l e misdirected
    (s.now + 1000 * lashLimit s.conf.lashClass) hl he hp hn rfl
  have hfirst := (handInbound_steps (c := c) (s := s)).tail hone
  unfold State.placeMatched
  extract_lets r frame breach s₁ s₂ s₃ s₄
  obtain ⟨u, hu⟩ : ∃ u, u = s₁.handInbound := ⟨_, rfl⟩
  have hsu : (s.handInbound.placeRecord l
      (matchedRecord s.handInbound.table l e misdirected
        (s.now + 1000 * lashLimit s.conf.lashClass))).removeInbound e = u := by rw [hu]; rfl
  rw [hsu] at hfirst
  have hub : u.conf.role = .bay := by
    rw [hu]; simpa [s₁] using hb
  have hun : u.node ≠ .withdrawn := by
    rw [hu]; simpa [s₁] using hn
  have hv : s₂.conf.role = .bay := by
    rw [show s₂ = u.followCongestion by rw [hu], (congrArg State.conf u.followCongestion_frame :)]
    exact hub
  have hw : s₃.conf.role = .bay := by
    rw [show s₃.conf = s₂.conf from raiseIf_conf _ _ _ _]; exact hv
  have hx : s₄.conf.role = .bay := by
    dsimp only [s₄]; split <;> exact hw
  have h₂ : Steps c u s₂ := by
    rw [show s₂ = u.followCongestion by rw [hu]]; exact followCongestion_steps hub hun
  have h₃ : Steps c s₂ s₃ := raiseIf_steps (misdirected = true) .misdirected (some l.number)
  have h₄ : Steps c s₃ s₄ := by
    dsimp only [s₄]
    split
    · exact .refl
    · exact raise_steps .placementBreach (some l.number)
  exact hfirst.trans (h₂.trans (h₃.trans (h₄.trans (handIn_steps (by
    simp [State.Sends, Payload.fromBay, hx])))))

/-- A sensor port with the withheld-event count it had. -/
theorem sensor_steps (hb : s.conf.role = .bay) {p : SensorPort}
    (hw : p.withheld = s.sensor.withheld) : Steps c s (s.setSensor p) :=
  .single (.sensor s p hb fun h => by rw [hw]; exact h)

theorem closeSurvey_steps (hb : s.conf.role = .bay) : Steps c s s.closeSurvey :=
  sensor_steps hb rfl

theorem requestSurvey_steps (hb : s.conf.role = .bay) : Steps c s s.requestSurvey := by
  unfold State.requestSurvey
  split
  · exact .refl
  · refine (sensor_steps hb ?_).trans (out_steps ?_ ?_)
    · rfl
    · exact { Outputs.Grows.refl s.out with surveys := Nat.le_succ _ }
    · rfl

theorem releaseAll_setNode (n : NodeState) (s : State) :
    (s.setNode n).releaseAll = s.releaseAll.setNode n := by
  rw [releaseAll_eq, releaseAll_eq]; rfl

theorem enterRecovery_steps (hb : s.conf.role = .bay) (h : s.node = .active) :
    Steps c s s.enterRecovery := by
  have he : s.enterRecovery =
      (s.abandonAll.releaseAll.setNode .recovery).requestSurvey.handTally := by
    unfold State.enterRecovery
    rw [← releaseAll_setNode]
    rfl
  have hr := releaseAll_eq s.abandonAll
  rw [he]
  refine (abandonAll_steps hb).trans (releaseAll_steps.trans
    (.head (.node _ _ (.recovery ?_ (State.releaseAll_reservations _) ?_))
      ((requestSurvey_steps ?_).trans handTally_steps))) <;> rw [hr]
  · exact h
  · exact ⟨rfl, rfl⟩
  · exact hb

theorem withdraw_steps (hb : s.conf.role = .bay) (h : s.node = .recovery) :
    Steps c s s.withdraw := by
  refine (closeSurvey_steps hb).trans (.head (.node s.closeSurvey _ (.withdrawn h)) ?_)
  refine (raise_steps .withdrawn none).trans ((handIn_steps ?_).trans handTally_steps)
  simp [State.Sends, Payload.fromBay, State.raise, State.closeSurvey, hb]

theorem inconsistency_steps (hb : s.conf.role = .bay) (n : Nat) :
    Steps c s (s.inconsistency n) := by
  unfold State.inconsistency
  split
  · exact sensor_steps hb rfl
  · exact enterRecovery_steps hb ‹_›
  · exact withdraw_steps hb ‹_›
  · exact .refl
  · exact .refl

theorem matchEntry_mem {tolerance inferred : Int} {n : Nat} {es : List Inbound} {x : Inbound × Bool}
    (h : matchEntry tolerance inferred n es = some x) : x.1 ∈ es := by
  unfold matchEntry at h
  split at h
  · cases h; exact List.mem_of_find?_eq_some ‹_›
  · obtain ⟨e, he, rfl⟩ := Option.map_eq_some_iff.1 h
    exact List.mem_of_find?_eq_some he

theorem takeEnter_steps (hb : s.conf.role = .bay) (hn : s.node ≠ .withdrawn) (n : Nat) (m : Int) :
    Steps c s (s.takeEnter n m) := by
  unfold State.takeEnter
  split
  · exact inconsistency_steps hb n
  · rename_i l hl
    obtain ⟨hmem, _⟩ := LaneTable.lane?_some hl
    split
    · rename_i hcons
      simp only [Lane.enterConsistent, Bool.and_eq_true, decide_eq_true_eq] at hcons
      obtain ⟨⟨hp, _⟩, _⟩ := hcons
      unfold State.applyEnter
      split
      · rename_i x hx
        exact placeMatched_steps hb hmem (matchEntry_mem hx) hp hn _
      · exact placeUnidentified_steps hmem hp hn _
    · exact inconsistency_steps hb n

theorem takeLeave_steps (hb : s.conf.role = .bay) (hn : s.node ≠ .withdrawn) (n : Nat) (m : Int) :
    Steps c s (s.takeLeave n m) := by
  unfold State.takeLeave
  split
  · exact inconsistency_steps hb n
  · rename_i l hl
    obtain ⟨hmem, _⟩ := LaneTable.lane?_some hl
    split
    · exact inconsistency_steps hb n
    · rename_i r hr
      unfold State.applyLeave
      extract_lets v u
      have hleft : Micro c s v := .left s l r hmem hr hn
      have hraise : Steps c v u :=
        raiseIf_steps (r.leavesEarly = true) .earlyRemoval (some l.number)
      have hub : u.conf.role = .bay := by
        rw [show u.conf = v.conf from raiseIf_conf _ _ _ _]; exact hb
      refine .head hleft (hraise.trans ?_)
      split
      · exact .refl
      · exact inconsistency_steps hub _

/-- Removals at a survey leave the configuration, the node state and the sensor port. -/
theorem surveyRemovals_stands (fuel n : Nat) (m : Int) (s : State) :
    (State.surveyRemovals fuel n m s).conf = s.conf ∧ (State.surveyRemovals fuel n m s).node = s.node := by
  induction fuel generalizing s with
  | zero => exact ⟨rfl, rfl⟩
  | succ fuel ih =>
    unfold State.surveyRemovals
    split
    · exact ⟨rfl, rfl⟩
    · split
      · exact ⟨rfl, rfl⟩
      · split
        · rename_i l _ _ r _ _
          obtain ⟨hc, hn⟩ := ih ((s.removeRecord l r).raise .earlyRemoval (some n))
          exact ⟨hc.trans (by simp), hn.trans (by simp)⟩
        · exact ⟨rfl, rfl⟩

theorem surveyRemovals_steps (hn : s.node ≠ .withdrawn) (fuel n : Nat) (m : Int) :
    Steps c s (State.surveyRemovals fuel n m s) := by
  induction fuel generalizing s with
  | zero => exact .refl
  | succ fuel ih =>
    unfold State.surveyRemovals
    split
    · exact .refl
    · rename_i l hl
      split
      · exact .refl
      · rename_i r hr
        split
        · have hleft := Micro.left (c := c) s l r (LaneTable.lane?_some hl).1 hr hn
          have hu : (s.removeRecord l r).node ≠ .withdrawn := by simpa using hn
          generalize s.removeRecord l r = u at hleft hu
          have hraise := raise_steps (c := c) (s := u) .earlyRemoval (some n)
          have hun : (u.raise .earlyRemoval (some n)).node ≠ .withdrawn := hu
          exact .head hleft (hraise.trans (ih hun))
        · exact .refl

theorem surveyAppend_steps (hn : s.node ≠ .withdrawn) (n : Nat) (m : Int) :
    Steps c s (s.surveyAppend n m).1 := by
  unfold State.surveyAppend
  split
  · exact .refl
  · rename_i l hl
    split
    · split
      · exact .refl
      · split
        · exact .refl
        · rename_i hp
          exact placeUnidentified_steps (LaneTable.lane?_some hl).1 (Nat.lt_of_not_le hp) hn
            (m - l.used)
    · exact .refl

theorem surveyAppend_conf (n : Nat) (m : Int) (s : State) :
    (s.surveyAppend n m).1.conf = s.conf := by
  unfold State.surveyAppend
  split
  · rfl
  · split
    · split
      · rfl
      · split <;> rfl
    · rfl

theorem takeLevel_steps (hb : s.conf.role = .bay) (hn : s.node ≠ .withdrawn) (n : Nat) (m : Int) :
    Steps c s (s.takeLevel n m) := by
  unfold State.takeLevel
  split
  · exact .refl
  · rename_i l hl
    have hrec : Steps c s (s.reconcile l m).1 ∧ (s.reconcile l m).1.conf = s.conf := by
      unfold State.reconcile
      split
      · exact ⟨.refl, rfl⟩
      · obtain ⟨hc, hnode⟩ := surveyRemovals_stands l.placed.length l.number m s
        refine ⟨(surveyRemovals_steps hn _ _ _).trans (surveyAppend_steps ?_ _ _), ?_⟩
        · rw [hnode]; exact hn
        · rw [surveyAppend_conf, hc]
    obtain ⟨hsteps, hconf⟩ := hrec
    have hbay : (s.reconcile l m).1.conf.role = .bay := by rw [hconf]; exact hb
    dsimp only
    split
    · exact hsteps.trans (sensor_steps hbay rfl)
    · exact hsteps.trans (inconsistency_steps hbay n)

theorem bayToActive_steps (hb : s.conf.role = .bay) (h : s.node = .listen ∨ s.node = .recovery) :
    Steps c s s.bayToActive := by
  refine (relabel_steps hb (same_map fun l _ => ?_)).trans
    (.head (.node _ _ (.active h)) handTally_steps)
  split
  · exact .refl _ l
  · exact kept_mark _ l true

theorem maybeActive_steps : Steps c s s.maybeActive := by
  unfold State.maybeActive
  split
  · rename_i h
    split
    · exact .head (.node s _ (.active (.inl h.1))) handLook_steps
    · split
      · exact bayToActive_steps ‹_› (.inl h.1)
      · exact .refl
  · exact .refl

theorem takeEnd_steps (hb : s.conf.role = .bay) : Steps c s s.takeEnd := by
  unfold State.takeEnd
  refine (closeSurvey_steps hb).trans ?_
  dsimp only
  split
  · exact maybeActive_steps
  · exact bayToActive_steps hb (.inr ‹_›)
  all_goals exact .refl

theorem expireSurvey_steps (hb : s.conf.role = .bay) : Steps c s s.expireSurvey := by
  have hclose : Steps c s s.closeSurvey := closeSurvey_steps hb
  unfold State.expireSurvey
  split
  · exact hclose.trans maybeActive_steps
  · exact withdraw_steps hb ‹_›
  all_goals exact hclose

/-! ## The Round Controller -/

theorem rounds_steps {rc : RoundController} (h : RoundsStep s rc) : Steps c s (s.setRounds rc) :=
  .single (.rounds s rc h)

theorem takeArrival_steps (hr : s.conf.role = .ramp) (a : Arrival) :
    Steps c s (s.takeArrival a) := by
  unfold State.takeArrival
  split
  · exact dispose_steps _ _
  · have he : (s.setRounds { s.rounds with
        waiting := s.rounds.waiting ++
          [{ arrival := a.accepted, attempts := 0, notBefore := none, called := false }] }).followHold =
        s.setRounds { s.rounds with
          waiting := s.rounds.waiting ++
            [{ arrival := a.accepted, attempts := 0, notBefore := none, called := false }]
          hold := s.holdFor (s.rounds.waiting.length + 1) } := by
      unfold State.followHold
      rw [State.setRounds_rounds, List.length_append]
      rfl
    rw [he]
    exact (rounds_steps (.arrived a hr ‹_›)).trans handLook_steps

theorem openRoundFor_steps (hm : s.MayOpen) {w : WaitingEntry}
    (hw : s.rounds.waiting.find? (WaitingEntry.callable s.now s.rounds.gradient) = some w) :
    Steps c s (s.openRoundFor w) := by
  have hany : s.rounds.waiting.any (WaitingEntry.callable s.now s.rounds.gradient) = true :=
    List.any_eq_true.2 ⟨w, List.mem_of_find?_eq_some hw, List.find?_some hw⟩
  obtain ⟨⟨_, hrole⟩, _⟩ := id hm
  unfold State.openRoundFor
  dsimp only
  refine (handNode_steps.trans
    (rounds_steps (s := s.handNode) (.opened _ rfl hm rfl hany))).trans (handIn_steps ?_)
  simp [State.Sends, Payload.fromBay, State.handNode, hrole]

theorem lookForCallable_steps : Steps c s s.lookForCallable := by
  unfold State.lookForCallable
  split
  · split
    · exact .refl
    · exact openRoundFor_steps ‹_› ‹_›
  · exact .refl

theorem takeOffer_steps (source k : Byte) (p : OfferPayload) :
    Steps c s (s.takeOffer source k p) := by
  unfold State.takeOffer
  split
  · exact .refl
  · split
    · exact rounds_steps (.offered _ source k p ‹_› ‹_›)
    · exact .refl

theorem actOnAdvance_steps (hr : s.conf.role = .ramp) : Steps c s s.actOnAdvance := by
  unfold State.actOnAdvance
  dsimp only
  refine (handNode_steps.trans
    (setTally_called_steps (s := s.handNode) (s.tally.callNumber + 1) rfl)).trans
      ((handIn_steps ?_).trans (rounds_steps (.advance false ?_)))
  · simp [State.Sends, Payload.fromBay, State.handNode, hr]
  · rw [State.handIn_conf]; exact hr

theorem actOnHeld_steps (hr : s.conf.role = .ramp) : Steps c s s.actOnHeld := by
  unfold State.actOnHeld
  split
  · exact actOnAdvance_steps hr
  · exact .refl

theorem award_steps (hr : s.conf.role = .ramp) (o : OpenRound) (x : Offer) :
    Steps c s (s.award o x) := by
  unfold State.award
  dsimp only
  have hsend : s.Sends (.award { round := o.round, bay := x.bay, lane := x.lane }) := by
    simp [State.Sends, Payload.fromBay, hr]
  refine (handIn_steps hsend).trans ?_
  generalize s.handIn _ = u
  split
  · exact rounds_steps (.closed ‹_›)
  · rename_i w hw
    refine (dispose_steps w.arrival.booking
      (.awarded x.deck x.bay x.lane w.arrival.clamped)).trans ?_
    exact rounds_steps (s := u.dispose _ _) (.awarded w
      { round := o.round, arrival := w.arrival, attempts := w.attempts, deck := x.deck
        bay := x.bay, lane := x.lane } hw rfl)

theorem closeWithoutAward_steps : Steps c s s.closeWithoutAward := by
  unfold State.closeWithoutAward
  dsimp only
  split
  · exact rounds_steps (.closed ‹_›)
  · rename_i w hw
    split
    · exact rounds_steps (.recalled s.conf.recallDelay)
    · exact (rounds_steps (s := s) (.shutOut w hw)).trans (dispose_steps _ _)

theorem award_conf (o : OpenRound) (x : Offer) (s : State) : (s.award o x).conf = s.conf := by
  unfold State.award
  dsimp only
  split <;> exact s.handIn_conf _

theorem closeWithoutAward_conf (s : State) : s.closeWithoutAward.conf = s.conf := by
  unfold State.closeWithoutAward
  dsimp only
  split
  · rfl
  · split <;> rfl

theorem expireWindow_steps (hr : s.conf.role = .ramp) (o : OpenRound) :
    Steps c s (s.expireWindow o) := by
  have hclose : ∀ u : State, Steps c s u → u.conf.role = .ramp → Steps c s u.actOnHeld.handLook :=
    fun u hu hur => hu.trans ((actOnHeld_steps hur).trans handLook_steps)
  unfold State.expireWindow
  dsimp only
  split
  · exact hclose _ (award_steps hr o _) (by rw [award_conf]; exact hr)
  all_goals
    exact hclose _ closeWithoutAward_steps (by rw [closeWithoutAward_conf]; exact hr)

theorem cancelDispatched_steps (r : RoundId) (bay : Byte) (reason : CancelReason) :
    Steps c s (s.cancelDispatched r bay reason) := by
  unfold State.cancelDispatched
  split
  · exact .refl
  · rename_i d hd
    dsimp only
    refine (dispose_steps d.arrival.booking (.cancelled reason)).trans ?_
    split
    · rename_i hw
      exact (rounds_steps (s := s.dispose _ _) (.returned _ d hd hw)).trans handLook_steps
    · exact (rounds_steps (s := s.dispose _ _) (.answered _)).trans (dispose_steps _ _)

theorem takeDecline_steps (source : Byte) (p : DeclinePayload) :
    Steps c s (s.takeDecline source p) := by
  unfold State.takeDecline
  split
  · exact cancelDispatched_steps _ _ _
  · exact .refl

theorem takeArrived_steps (r : RoundId) (source : Byte) (b : BookingWord) (v : Verdict) :
    Steps c s (s.takeArrived r source b v) := by
  unfold State.takeArrived
  split
  · split
    · exact .refl
    · exact (dispose_steps _ v).trans (rounds_steps (.answered _))
  · exact .refl

theorem startWindow_steps (r : RoundId) : Steps c s (s.startWindow r) := by
  unfold State.startWindow
  split
  · exact .refl
  · split
    · exact rounds_steps (.window _ ‹_› _)
    · exact .refl

theorem settleDrop_steps (d : Drop) : Steps c s (s.settleDrop d) := by
  cases d with
  | call r => exact startWindow_steps r
  | award r bay => exact cancelDispatched_steps r bay .unsent

theorem settleDrops_steps : Steps c s s.settleDrops := by
  have hfold : ∀ (ds : List Drop) (u : State), Steps c u (ds.foldl State.settleDrop u) := by
    intro ds
    induction ds with
    | nil => exact fun _ => .refl
    | cons d ds ih => exact fun u => (settleDrop_steps d).trans (ih _)
  have h := Micro.hand (c := c) s { s.handed with drops := [] } ⟨id, List.Subset.refl _, id, id⟩
  exact .head h (hfold _ _)

theorem lookIfAsked_steps : Steps c s s.lookIfAsked := by
  unfold State.lookIfAsked
  split
  · exact lookForCallable_steps
  · exact .refl

theorem abandonRound_steps (hr : s.conf.role = .ramp) : Steps c s s.abandonRound := by
  unfold State.abandonRound
  split
  · exact .refl
  · rename_i o ho
    have h := rounds_steps (c := c) (s := s.removeCall o.round) (.abandoned o ho)
    have h' := (takeOut_steps (c := c) (Payload.isCallOf o.round)).trans h
    dsimp only
    generalize hu : (s.removeCall o.round).setRounds _ = u at h' ⊢
    have hur : u.conf.role = .ramp := by rw [← hu]; exact hr
    exact h'.trans ((actOnHeld_steps hur).trans handLook_steps)

end Sys2Proof.Machine
end

section
/-! PROOFS. Every command is a chain of small steps and then the end of its event: the commands themselves,
and how an invariant follows. -/

namespace Sys2Proof.Machine

open Sys2Proof

variable {c : Instr} {s : State}

/-! ## Events of the deck line -/

theorem dropDeadOffers_suffix (held : List RoundId) (q : List QFrame) : dropDeadOffers held q <:+ q := by
  induction q with
  | nil => exact List.suffix_rfl
  | cons f q ih =>
    unfold dropDeadOffers
    split
    · split
      · exact List.suffix_rfl
      · exact ih.trans (List.suffix_cons f q)
    all_goals exact List.suffix_rfl

theorem startAttempt_steps (rivals : List Rival) :
    Steps (.transmitStart rivals) s (s.startAttempt rivals) := by
  have hq := dropDeadOffers_suffix (s.table.reservations.map (·.round)) s.dli.queue
  unfold State.startAttempt
  split
  · exact .refl
  · rename_i hn
    have hline : ∀ x, Steps (.transmitStart rivals) s (s.setDli { s.dli with
        queue := dropDeadOffers (s.table.reservations.map (·.round)) s.dli.queue, onLine := x }) :=
      fun x => .single (.dli s _ (.started hn _ hq x))
    have hkeep : ({ s.dli with
        queue := dropDeadOffers (s.table.reservations.map (·.round)) s.dli.queue
        onLine := none } : Dli) =
        { s.dli with queue := dropDeadOffers (s.table.reservations.map (·.round)) s.dli.queue } := by
      rw [← hn]
    dsimp only
    split
    · exact hkeep ▸ hline none
    · split
      · exact hkeep ▸ hline none
      · exact (hline _).tail (.out _ _
          { Outputs.Grows.refl s.out with deck := List.prefix_append _ _ } (.inr ⟨rivals, rfl⟩))

theorem offersOut_of_empty {d : Dli} (h : d.queue = []) (rs : List RoundId) :
    d.offersOut rs = d :=
  takeOut_of_none fun f hf => by rw [h] at hf; cases hf

/-- The DLI after the passage to SILENT (R159). -/
def Dli.silenced (due : Nat) (d : Dli) : Dli :=
  { d with line := .silent, queue := [], onLine := none, probeTime := some due }

/-- The drops that the passage to SILENT reports: of the frames discarded (R157, R159). -/
def Dli.drops (d : Dli) : List Drop := d.queue.flatMap fun f => f.payload.dropReport

/-- At a bay the promises may be given up before the queue is emptied (R159). -/
theorem becomeSilent_bay_eq (hb : s.conf.role = .bay) :
    s.becomeSilent =
      (((s.releaseAll.abandonAll).setDli (s.dli.silenced (s.now + Config.probeInterval))).handDrops
        s.dli.drops).raise .lineSilent none := by
  have hv := releaseAll_eq ((s.setDli
    (s.dli.silenced (s.now + Config.probeInterval))).handDrops s.dli.drops)
  rw [offersOut_of_empty (by rfl)] at hv
  have he : s.becomeSilent = ((((s.setDli
      (s.dli.silenced (s.now + Config.probeInterval))).handDrops s.dli.drops).releaseAll).abandonAll).raise
        .lineSilent none := by
    unfold State.becomeSilent
    simp only [State.handDrops_conf, State.setDli_conf, hb]
    rfl
  rw [he, hv, releaseAll_eq]
  rfl

theorem becomeSilent_ramp_eq (hr : s.conf.role = .ramp) :
    s.becomeSilent =
      ((s.setDli (s.dli.silenced (s.now + Config.probeInterval))).handDrops s.dli.drops).raise
        .lineSilent none := by
  unfold State.becomeSilent
  simp only [State.handDrops_conf, State.setDli_conf, hr]
  rfl

/-- The passage to SILENT with the last drop counted (R158, R159). -/
theorem becomeSilent_steps (hl : s.dli.line = .normal) (n : Nat)
    (hn : s.dli.failures < Config.silentFailures → n ≤ Config.silentFailures) :
    Steps c s (s.setDli { s.dli with failures := n }).becomeSilent := by
  cases hr : s.conf.role with
  | bay =>
    have hra := releaseAll_eq s
    have hrb := releaseAll_eq (s.setDli { s.dli with failures := n })
    have hgiven : Steps c s s.releaseAll.abandonAll :=
      releaseAll_steps.trans (abandonAll_steps (by rw [hra]; exact hr))
    have hempty : s.releaseAll.abandonAll.table.reservations = [] := State.releaseAll_reservations s
    rw [becomeSilent_bay_eq (s := s.setDli { s.dli with failures := n }) hr, hrb]
    refine hgiven.trans ?_
    have hdli : s.releaseAll.abandonAll.dli.line = .normal ∧
        s.releaseAll.abandonAll.dli.failures = s.dli.failures := by rw [hra]; exact ⟨hl, rfl⟩
    have hstep := Micro.dli (c := c) s.releaseAll.abandonAll _
        (.silent hdli.1 (fun _ => ⟨hempty, rfl, rfl⟩) n (s.now + Config.probeInterval)
          (by rw [hdli.2]; exact hn))
    refine .head hstep ?_
    rw [hra]
    exact (handDrops_steps _).trans (raise_steps _ _)
  | ramp =>
    rw [becomeSilent_ramp_eq (s := s.setDli { s.dli with failures := n }) hr]
    have hstep := Micro.dli (c := c) s _ (.silent hl (fun hb => by rw [hr] at hb; cases hb) n
      (s.now + Config.probeInterval) hn)
    exact .head hstep ((handDrops_steps _).trans (raise_steps _ _))

theorem returnToNormal_steps : Steps c s s.returnToNormal := by
  unfold State.returnToNormal
  refine .head (.dli s _ .normal) (.head (.cleared _ .lineSilent none) ?_)
  dsimp only
  split
  · exact handTally_steps
  · exact handLook_steps

/-- The end of a CALL that is not to be removed starts the window timer of its round (R83, R154). -/
def State.windowIfCall (f : QFrame) (s : State) : State :=
  match f.payload with
  | .call p => if f.leaving then s else s.startWindow p.round
  | _ => s

theorem windowIfCall_steps (f : QFrame) : Steps c s (s.windowIfCall f) := by
  unfold State.windowIfCall
  split
  · split
    · exact .refl
    · exact startWindow_steps _
  · exact .refl

theorem attemptAcknowledged_eq (f : QFrame) (s : State) :
    s.attemptAcknowledged f =
      match s.dli.line with
      | .silent => ((s.setDli { s.dli.without f.age with failures := 0 }).windowIfCall f).returnToNormal
      | .normal => (s.setDli { s.dli.without f.age with failures := 0 }).windowIfCall f := by
  unfold State.attemptAcknowledged State.windowIfCall
  cases f.payload <;> rfl

theorem attemptAcknowledged_steps {o : OnLine} {f : QFrame} (ho : s.dli.onLine = some o)
    (hf : s.dli.queue.find? (fun f => decide (f.age = o.age)) = some f) :
    Steps c s (s.attemptAcknowledged f) := by
  have hfirst : Steps c s (s.setDli { s.dli.without f.age with failures := 0 }) := by
    have h := Micro.dli (c := c) s _ (.ended f o ho hf)
    exact .head h (.single (.dli (s.setDli (s.dli.without f.age)) _ (.counted 0 (by decide))))
  have hwindow := hfirst.trans (windowIfCall_steps f)
  rw [attemptAcknowledged_eq]
  split
  · exact hwindow.trans returnToNormal_steps
  · exact hwindow

theorem dropFrame_steps {o : OnLine} {f : QFrame} (ho : s.dli.onLine = some o)
    (hf : s.dli.queue.find? (fun f => decide (f.age = o.age)) = some f) :
    Steps c s (s.dropFrame f) := by
  have hfirst : Micro c s (s.setDli (s.dli.without f.age)) := .dli s _ (.ended f o ho hf)
  unfold State.dropFrame
  refine .head hfirst ?_
  generalize s.setDli (s.dli.without f.age) = u
  dsimp only
  split
  · exact handDrops_steps _
  · rename_i hl
    refine Relation.ReflTransGen.trans ?_ (handDrops_steps _)
    split
    · exact becomeSilent_steps hl _ (fun h => h)
    · rename_i hn
      exact .single (.dli u _ (.counted _ (Nat.lt_of_not_le hn)))

theorem endAttempt_steps (a : Bool) : Steps c s (s.endAttempt a) := by
  unfold State.endAttempt
  split
  · exact .refl
  · rename_i o ho
    split
    · exact .single (.dli s _ (.lost o ho ‹_›))
    · rename_i f hf
      split
      · exact attemptAcknowledged_steps ho hf
      · unfold State.attemptFailed
        split
        · exact .single (.dli s _ (.ended f o ho hf))
        · rename_i hl
          split
          · rename_i ha
            exact .single (.dli s _ (.again f o ho hf (by simpa using hl) ha))
          · exact dropFrame_steps ho hf

theorem enqueueProbe_steps {p : Payload} (hl : s.dli.line = .silent)
    (hk : (p.isTally || p.isPortcall) = true) (hp : s.Sends p) : Steps c s (s.enqueueProbe p) :=
  .single (.dli s _ (.probe p hl hk hp))

theorem probe_steps (hl : s.dli.line = .silent) (due : Nat) : Steps c s (s.probe due) := by
  have hfirst : Steps c s ((s.reach due).setDli
      { s.dli with probeTime := some (due + Config.probeInterval) }) :=
    (reach_steps due).tail (.dli (s.reach due) _ (.probeTime (s := s.reach due) hl _))
  unfold State.probe
  refine hfirst.trans ?_
  generalize hv : (s.reach due).setDli _ = v
  have hvl : v.dli.line = .silent := by rw [← hv]; exact hl
  dsimp only [State.reach_dli] at hv ⊢
  rw [hv]
  split
  · rename_i hb
    have hb' : v.countBuild.conf.role = .bay := hb
    have hvl' : v.countBuild.dli.line = .silent := hvl
    exact countBuild_steps.trans (enqueueProbe_steps (s := v.countBuild) hvl' rfl
      (by simp [State.Sends, Payload.fromBay, hb']))
  · rename_i hr
    exact enqueueProbe_steps hvl rfl (by simp [State.Sends, Payload.fromBay, hr])

theorem takeProbeTime_steps : Steps c s s.takeProbeTime := by
  unfold State.takeProbeTime
  split
  · exact probe_steps ‹_› _
  all_goals exact .refl

/-! ## Starts -/

/-- What restored flags raise for a lane, in their order (R181). -/
def Lane.raisedAtStart (l : Lane) : List (Code × Option Nat) :=
  let has (f : Flag → Bool) : Bool := l.placed.any fun r => r.flags.any f
  (if has Flag.isBreach then [(Code.placementBreach, some l.number)] else []) ++
    (if has (fun f => decide (f = .misdirected)) then [(Code.misdirected, some l.number)] else []) ++
    (if has (fun f => decide (f = .overcarried)) then [(Code.overcarried, some l.number)] else [])

/-- What a bay's restored lanes raise at the entry to LISTEN, in its order (R181). -/
def LaneTable.raisedAtStart (t : LaneTable) : List (Code × Option Nat) :=
  ((t.lanes.filter Lane.inFault).map fun l => (Code.laneFault, some l.number)) ++
    t.lanes.flatMap Lane.raisedAtStart

theorem raiseRestored_eq (l : Lane) (s : State) :
    s.raiseRestored l = s.setConditions (raiseAll s.now l.raisedAtStart s.conditions) := by
  unfold State.raiseRestored Lane.raisedAtStart
  dsimp only
  split <;> split <;> split <;> rfl

theorem foldl_raiseRestored_eq (ls : List Lane) (s : State) :
    ls.foldl State.raiseRestored s =
      s.setConditions (raiseAll s.now (ls.flatMap Lane.raisedAtStart) s.conditions) := by
  induction ls generalizing s with
  | nil => rfl
  | cons l ls ih =>
    rw [List.foldl_cons, ih, raiseRestored_eq, List.flatMap_cons, raiseAll_append]
    rfl

theorem raiseAtStart_eq (s : State) :
    s.raiseAtStart = s.setConditions (raiseAll s.now s.table.raisedAtStart s.conditions) := by
  have hf : ∀ (ls : List Lane) (u : State),
      ls.foldl (fun st l => st.raise .laneFault (some l.number)) u =
        u.setConditions (raiseAll u.now (ls.map fun l => (.laneFault, some l.number)) u.conditions) := by
    intro ls u
    rw [← foldl_raise_eq, List.foldl_map]
  unfold State.raiseAtStart LaneTable.raisedAtStart
  rw [hf]
  dsimp only
  rw [foldl_raiseRestored_eq, raiseAll_append]
  rfl

/-- The lanes whose copies a bay writes at the entry to LISTEN (R24, R180). -/
def State.lanesAtStart (s : State) : List Nat :=
  (s.conf.lanes.filter fun k =>
    writtenAtStart s.conf.gap k (s.retained.keptLane k.number)).map (·.number)

theorem handStartWrites_eq (s : State) :
    s.handStartWrites =
      s.setHanded { s.handed with
        lanes := s.handed.lanes ++ s.lanesAtStart
        inbound := s.handed.inbound || s.retained.inboundWritten s.table.lanes } := by
  unfold State.handStartWrites
  dsimp only
  rw [foldl_handLane_eq]
  rw [State.setHanded_retained, State.setHanded_table]
  by_cases h : s.retained.inboundWritten s.table.lanes = true
  · rw [if_pos h, h, Bool.or_true]; rfl
  · rw [if_neg h, Bool.eq_false_iff.2 h, Bool.or_false]; rfl

theorem kept_stopped {h : HandedOn} {l : Lane}
    (hl : l.stopped.stored = l.stored ∨ l.number ∈ h.lanes) : l.Kept h l.stopped := by
  rcases hl with hl | hl
  · refine ⟨{ Lane.Same.refl l with }, .inl ?_⟩
    unfold Lane.copy
    rw [hl]
    rfl
  · exact kept_stored hl _ false

theorem stopBay_eq (s : State) :
    s.stopBay = ((s.abandonAll.handStates s.table.stopChanges).setTable
      { s.table with lanes := s.table.lanes.map Lane.stopped }).releaseAll := by
  unfold State.stopBay
  dsimp only
  rw [handStates_eq, handStates_eq]
  rfl

theorem stopBay_steps (hb : s.conf.role = .bay) : Steps c s s.stopBay := by
  rw [stopBay_eq]
  have hand : Steps c s (s.abandonAll.handStates s.table.stopChanges) :=
    (abandonAll_steps hb).trans (handStates_steps _)
  obtain ⟨u, hu⟩ : ∃ u, u = s.abandonAll.handStates s.table.stopChanges := ⟨_, rfl⟩
  have hub : u.conf.role = .bay ∧ u.table = s.table ∧ s.table.stopChanges ⊆ u.handed.lanes := by
    rw [hu, handStates_eq]
    exact ⟨hb, rfl, List.subset_append_right _ _⟩
  obtain ⟨hrole, htable, hlanes⟩ := hub
  rw [← hu] at hand ⊢
  rw [← htable] at hlanes ⊢
  refine (hand.trans (relabel_steps hrole (same_map fun l hl =>
    kept_stopped ?_))).trans releaseAll_steps
  by_cases hs : l.stopped.stored = l.stored
  · exact .inl hs
  · exact .inr (hlanes (List.mem_map.2 ⟨l, List.mem_filter.2 ⟨hl, by simpa using hs⟩, rfl⟩))

theorem stopEdge_steps : Steps c s s.stopEdge := by
  unfold State.stopEdge
  refine (raise_steps .stop none).trans ?_
  dsimp only
  split
  · exact stopBay_steps ‹_›
  · exact abandonRound_steps ‹_›

/-- The end of the entry to LISTEN, after the blocks are restored (R181). -/
def State.listening (s : State) : State :=
  let s := if s.stopLine then s.stopEdge else s
  let s :=
    match s.conf.role with
    | .bay => s.requestSurvey.handTally
    | .ramp => s
  s.setListenDue (some (s.now + 1000 * s.conf.listenInterval))

theorem listening_steps : Steps c s s.listening := by
  unfold State.listening
  have hedge : Steps c s (if s.stopLine then s.stopEdge else s) := by
    split
    · exact stopEdge_steps
    · exact .refl
  refine hedge.trans ?_
  generalize (if s.stopLine then s.stopEdge else s) = u
  dsimp only
  refine Relation.ReflTransGen.tail ?_ (.listenDue _ _)
  split
  · exact (requestSurvey_steps ‹_›).trans handTally_steps
  · exact .refl

/-- The conditions that a bay raises at the entry to LISTEN before the stop line is looked at (R181). -/
def LaneTable.raisedAtListen (t : LaneTable) (altered : Bool) : List (Code × Option Nat) :=
  (if altered then [(Code.configClamped, none)] else []) ++ t.raisedAtStart

/-- The entry to LISTEN up to the look at the stop line (R24, R181). -/
def State.entering (altered : Bool) (s : State) : State :=
  let s := s.setNode .listen
  let s := if altered then s.raise .configClamped none else s
  match s.conf.role with
  | .bay => s.raiseAtStart.handStartWrites
  | .ramp => s

theorem enterListen_eq (altered : Bool) (s : State) :
    s.enterListen altered = (s.entering altered).listening := rfl

theorem entering_bay_eq (altered : Bool) (hb : s.conf.role = .bay) :
    s.entering altered =
      ((s.setNode .listen).handStartWrites).setConditions
        (raiseAll s.now (s.table.raisedAtListen altered) s.conditions) := by
  unfold State.entering LaneTable.raisedAtListen
  rw [raiseAll_append]
  cases altered
  · simp only [Bool.false_eq_true, if_false, State.setNode_conf, hb, raiseAtStart_eq,
      handStartWrites_eq]
    rfl
  · simp only [if_true, State.setNode_conf, raise_conf, hb, raiseAtStart_eq,
      handStartWrites_eq]
    rfl

theorem entering_ramp_eq (altered : Bool) (hr : s.conf.role = .ramp) :
    s.entering altered =
      if altered then (s.setNode .listen).raise .configClamped none else s.setNode .listen := by
  unfold State.entering
  cases altered <;> simp [hr]

/-- A start with the store's configuration loaded, before the blocks are restored (R177, R178). -/
def State.loading (b : Bool) (g : Fin 4) (k : Conf) (s : State) : State :=
  ((s.discarded.setStopLine b).setGradientPin g).setConf k

theorem booted_none (b : Bool) (g : Fin 4) (h : loadConfig s.store = none) :
    s.booted b g = (s.discarded.setStopLine b).setGradientPin g := by
  have h' : loadConfig ((s.discarded.setStopLine b).setGradientPin g).store = none := h
  unfold State.booted
  dsimp only
  rw [h']

theorem takeStart_none (b : Bool) (g : Fin 4) (h : loadConfig s.store = none) :
    s.takeStart b g = (s.discarded.setStopLine b).setGradientPin g := by
  have h' : loadConfig ((s.discarded.setStopLine b).setGradientPin g).store = none := h
  unfold State.takeStart
  dsimp only
  rw [h']

theorem booted_some (b : Bool) (g : Fin 4) {k : Conf} {altered : Bool}
    (h : loadConfig s.store = some (k, altered)) :
    s.booted b g =
      match k.role with
      | .bay => ((s.loading b g k).restoreBay.setNode .listen).handStartWrites
      | .ramp => (s.loading b g k).restoreRamp.setNode .listen := by
  have h' : loadConfig ((s.discarded.setStopLine b).setGradientPin g).store = some (k, altered) := h
  unfold State.booted
  dsimp only
  rw [h']
  rfl

theorem takeStart_some (b : Bool) (g : Fin 4) {k : Conf} {altered : Bool}
    (h : loadConfig s.store = some (k, altered)) :
    s.takeStart b g =
      (State.entering altered (match k.role with
        | .bay => (s.loading b g k).restoreBay
        | .ramp => (s.loading b g k).restoreRamp)).listening := by
  have h' : loadConfig ((s.discarded.setStopLine b).setGradientPin g).store = some (k, altered) := h
  unfold State.takeStart
  dsimp only
  rw [h']
  rfl

/-- A start after what it makes of the blocks: conditions are raised, and the stop line is looked at. -/
theorem booted_steps (b : Bool) (g : Fin 4) : Steps c (s.booted b g) (s.takeStart b g) := by
  cases hload : loadConfig s.store with
  | none => rw [booted_none b g hload, takeStart_none b g hload]
  | some x =>
    obtain ⟨k, altered⟩ := x
    rw [booted_some b g hload, takeStart_some b g hload]
    cases hk : k.role with
    | bay =>
      dsimp only
      generalize hu : (s.loading b g k).restoreBay = u
      have hub : u.conf.role = .bay := by rw [← hu]; exact hk
      rw [entering_bay_eq altered hub, handStartWrites_eq]
      exact (raiseAll_steps (s := (u.setNode .listen).setHanded _) _).trans
        listening_steps
    | ramp =>
      dsimp only
      generalize hu : (s.loading b g k).restoreRamp = u
      have hur : u.conf.role = .ramp := by rw [← hu]; exact hk
      rw [entering_ramp_eq altered hur]
      exact (raiseIf_steps _ _ _).trans listening_steps

theorem takeStart_steps (b : Bool) (g : Fin 4) (hd : s.startDue = true) :
    Steps (.start b g) s (s.takeStart b g) :=
  .head (.started s b g rfl hd) (booted_steps b g)

/-! ## Commands of the panel line and the discrete inputs -/

theorem panelCommand_steps {f : State → State} (h : Steps c s (f s)) :
    Steps c s (s.panelCommand f) := by
  unfold State.panelCommand
  split
  · exact h
  all_goals exact .refl

theorem laneCommand_steps {n : Nat} {act : Lane → State → State}
    (h : s.conf.role = .bay → ∀ l ∈ s.table.lanes, Steps c s (act l s)) :
    Steps c s (s.laneCommand n act) := by
  refine panelCommand_steps ?_
  split
  · rename_i hb
    split
    · exact answer_steps _
    · rename_i l hl
      exact h hb.2 l (LaneTable.lane?_some hl).1
  · exact answer_steps _

theorem changeStored_steps (hb : s.conf.role = .bay) (n : Nat) (st : LaneState) :
    Steps c s (s.changeStored n st) := by
  have h : Steps c (s.handTally.handLane n) ((s.handTally.handLane n).updateLane n (Lane.withStored st)) :=
    updateLane_steps (s := s.handTally.handLane n) hb fun l _ hn => by
      subst hn
      exact kept_stored (List.mem_append_right _ (List.mem_singleton.2 rfl)) st l.suspect
  exact (handTally_steps.trans (handLane_steps n)).trans h

theorem openOne_steps (hb : s.conf.role = .bay) (l : Lane) : Steps c s (s.openOne l) := by
  unfold State.openOne
  split
  · exact answer_steps _
  · exact (changeStored_steps hb _ _).trans (answer_steps _)
  · exact answer_steps _

theorem closeOne_steps (hb : s.conf.role = .bay) (l : Lane) : Steps c s (s.closeOne l) := by
  have hmark : Steps c s (s.updateLane l.number Lane.withoutMark) :=
    updateLane_steps hb fun k _ _ => kept_mark _ k false
  unfold State.closeOne
  refine hmark.trans ?_
  generalize hu : s.updateLane l.number Lane.withoutMark = u
  have hub : u.conf.role = .bay := by rw [← hu]; exact hb
  dsimp only
  split
  · exact (changeStored_steps hub _ _).trans (answer_steps _)
  · exact answer_steps _
  · exact answer_steps _
  · exact (changeStored_steps hub _ _).trans (answer_steps _)

theorem openEvery_eq (s : State) :
    s.openEvery = ((s.handStates
      ((s.table.lanes.filter fun l => decide (l.stored = .closed)).map (·.number))).setTable
        { s.table with lanes := s.table.lanes.map Lane.openedAll }).answer .taken := by
  unfold State.openEvery
  dsimp only
  rw [handStates_eq, handStates_eq]
  rfl

theorem openEvery_steps (hb : s.conf.role = .bay) : Steps c s s.openEvery := by
  rw [openEvery_eq]
  have hand := handStates_steps (c := c) (s := s)
    ((s.table.lanes.filter fun l => decide (l.stored = .closed)).map (·.number))
  obtain ⟨u, hu⟩ : ∃ u, u = s.handStates
    ((s.table.lanes.filter fun l => decide (l.stored = .closed)).map (·.number)) := ⟨_, rfl⟩
  have hub : u.conf.role = .bay ∧ u.table = s.table ∧
      (s.table.lanes.filter fun l => decide (l.stored = .closed)).map (·.number) ⊆ u.handed.lanes := by
    rw [hu, handStates_eq]
    exact ⟨hb, rfl, List.subset_append_right _ _⟩
  obtain ⟨hrole, htable, hlanes⟩ := hub
  rw [← hu] at hand ⊢
  rw [← htable] at hlanes ⊢
  refine (hand.trans (relabel_steps hrole (same_map fun l hl => ?_))).trans
    (answer_steps _)
  unfold Lane.openedAll
  split
  · rename_i hst
    exact kept_stored (hlanes (List.mem_map.2
      ⟨l, List.mem_filter.2 ⟨hl, by simpa using hst⟩, rfl⟩)) _ l.suspect
  · exact .refl _ l
  · exact .refl _ l

/-- A record given a rank in range stays in its place (R22). -/
theorem giveRank_same {rank : Nat} (hr : rank ≤ 15) {rs qs : List Record}
    (h : giveRank rank rs = some qs) : List.Forall₂ Record.Same rs qs := by
  induction rs generalizing qs with
  | nil => cases h
  | cons r rs ih =>
    unfold giveRank at h
    split at h
    · obtain rfl := Option.some.inj h
      refine .cons { Record.Same.refl r with rank := fun _ => ?_ }
        (List.forall₂_same.2 fun r _ => .refl r)
      intro n hn
      obtain rfl : rank = n := by simpa using hn
      exact hr
    · obtain ⟨ps, hps, rfl⟩ := Option.map_eq_some_iff.1 h
      exact .cons (.refl r) (ih hps)

theorem giveRankRearmost_same {rank : Nat} (hr : rank ≤ 15) {rs qs : List Record}
    (h : giveRankRearmost rank rs = some qs) : List.Forall₂ Record.Same rs qs := by
  obtain ⟨ps, hps, rfl⟩ := Option.map_eq_some_iff.1 h
  simpa using List.rel_reverse (giveRank_same hr hps)

theorem eq_of_number {t : LaneTable} (hd : t.Distinct) {k l : Lane} (hk : k ∈ t.lanes)
    (hl : l ∈ t.lanes) (h : k.number = l.number) : k = l :=
  List.inj_on_of_nodup_map hd hk hl h

/-! ## Messages of the sensor line -/

theorem sensorMessage_steps {agrees : Bool} {take : State → State}
    (h : s.conf.role = .bay → Steps c s (take s)) : Steps c s (s.sensorMessage agrees take) := by
  unfold State.sensorMessage
  split
  · rename_i hb; exact h hb.1.2
  · exact .refl

theorem unlessWithdrawn_steps (hb : s.conf.role = .bay) {take : State → State}
    (h : s.node ≠ .withdrawn → Steps c s (take s)) : Steps c s (s.unlessWithdrawn take) := by
  unfold State.unlessWithdrawn
  split
  · refine .single (.sensor s _ hb fun hw => ?_)
    dsimp only
    split <;> omega
  · exact h ‹_›

theorem inSurvey_steps {take : State → State} (h : s.node ≠ .withdrawn → Steps c s (take s)) :
    Steps c s (s.inSurvey take) := by
  unfold State.inSurvey
  split
  · rename_i hs; exact h hs.2
  · exact .refl

theorem takeFault_steps (hb : s.conf.role = .bay) (n : Nat) : Steps c s (s.takeFault n) := by
  have hmark : Steps c s (s.updateLane n Lane.withMark) :=
    updateLane_steps hb fun k _ _ => kept_mark _ k true
  unfold State.takeFault
  split
  · exact .refl
  · split
    · exact hmark
    · exact hmark
    · exact .refl

theorem takeClear_steps (hb : s.conf.role = .bay) (n : Nat) : Steps c s (s.takeClear n) := by
  have hmark : Steps c s (s.updateLane n Lane.withoutMark) :=
    updateLane_steps hb fun k _ _ => kept_mark _ k false
  unfold State.takeClear
  split
  · exact .refl
  · refine hmark.trans ?_
    generalize hu : s.updateLane n Lane.withoutMark = u
    have hub : u.conf.role = .bay := by rw [← hu]; exact hb
    dsimp only
    split
    · exact .refl
    · exact .refl
    · exact (changeStored_steps hub n _).tail (.cleared _ .laneFault (some n))

/-! ## Timers -/

theorem deferFault_steps (hb : s.conf.role = .bay) (n : Nat) : Steps c s (s.deferFault n) := by
  have hlane : Steps c (s.handTally.handLane n) ((s.handTally.handLane n).updateLane n fun l =>
      { l with stored := .fault l.stored.asRemembered, suspect := false }) :=
    updateLane_steps (s := s.handTally.handLane n) hb fun l _ hn => by
      subst hn
      exact kept_stored (List.mem_append_right _ (List.mem_singleton.2 rfl)) _ false
  unfold State.deferFault
  rw [State.restartEvaluation_eq]
  have hall := ((handTally_steps.trans (handLane_steps n)).trans hlane).trans
    (raise_steps (c := c) .laneFault (some n))
  exact hall.tail (.eval _ _ hb .restarted)

theorem reserve_steps (hb : s.conf.role = .bay) {v : Evaluation} (hv : s.eval.inFlight = some v)
    {x : Choice} (hx : chooseLane s.conf v.snapshot v.call.arrival = some x)
    (hl : s.table.reservations.length < Config.maxReservations) (hr : s.handed.restart = false) :
    Steps c s (s.reserve v.call x) := by
  have h := Micro.reserved (c := c) s v x hb hv hx hl hr
  unfold State.reserve
  refine .head h (handIn_steps ?_)
  simp [State.Sends, Payload.fromBay, hb]

theorem completeEvaluation_steps (hb : s.conf.role = .bay) {v : Evaluation}
    (hv : s.eval.inFlight = some v) (hr : s.handed.restart = false) :
    Steps c s (s.completeEvaluation v) := by
  have hne : s.eval.inFlight ≠ none := by rw [hv]; exact Option.some_ne_none v
  unfold State.completeEvaluation
  split
  · exact moveOn_steps hb hne
  · rename_i x hx
    split
    · exact moveOn_steps hb hne
    · split
      · exact deferFault_steps hb x.lane
      · rename_i hl _
        refine (reserve_steps hb hv hx (Nat.lt_of_not_le hl) hr).trans
          (moveOn_steps ?_ ?_)
        · unfold State.reserve; simp [hb]
        · unfold State.reserve; simp [hne]

theorem takeCompletion_steps (hb : s.conf.role = .bay) (hr : s.handed.restart = false) :
    Steps c s s.takeCompletion := by
  unfold State.takeCompletion
  split
  · exact .refl
  · rename_i v hv
    split
    · exact moveOn_steps hb (by rw [hv]; exact Option.some_ne_none v)
    · exact completeEvaluation_steps hb hv hr

theorem takeDeadline_steps (hb : s.conf.role = .bay) (r : RoundId) :
    Steps c s (s.takeDeadline r) := by
  unfold State.takeDeadline
  split
  · exact .refl
  · rename_i v hv
    split
    · have hne : (s.reach v.call.deadline).eval.inFlight ≠ none := by
        rw [State.reach_eval, hv]; exact Option.some_ne_none v
      exact (reach_steps _).trans (moveOn_steps (s := s.reach v.call.deadline) hb hne)
    · exact .refl

theorem handIn_handInbound (p : Payload) (s : State) :
    s.handInbound.handIn p = (s.handIn p).handInbound := by
  unfold State.handIn
  cases h : s.dli.line <;> simp only [State.handInbound_dli, h] <;> rfl

theorem entryMissing_steps (hb : s.conf.role = .bay) {e : Inbound} (he : e ∈ s.table.inbound)
    (hn : s.node ≠ .withdrawn) : Steps c s (s.entryMissing e) := by
  have hgone := (handInbound_steps (c := c) (s := s)).tail
    (.missing s.handInbound e he hn rfl)
  obtain ⟨p, hp⟩ : ∃ p : Payload, p = .noticeMissing
      { round := e.round, booking := BitVec.ofNat 40 e.arrival.booking } := ⟨_, rfl⟩
  have hsend : (s.removeInbound e).handInbound.Sends p := by
    simp [hp, State.Sends, Payload.fromBay, hb]
  have hin := handIn_steps (c := c) hsend
  rw [handIn_handInbound] at hin
  obtain ⟨u, hu⟩ : ∃ u, u = (s.removeInbound e).handIn p := ⟨_, rfl⟩
  have hub : u.conf.role = .bay := by rw [hu, State.handIn_conf]; exact hb
  have hun : u.node ≠ .withdrawn := by rw [hu, handIn_node]; exact hn
  have heq : s.entryMissing e =
      (((((u.raise .inboundMissing (some e.lane)).handRestart).handTally).handInbound
        ).followCongestion) := by rw [hu, hp]; rfl
  rw [← hu] at hin
  rw [heq]
  refine (hgone.trans hin).trans ?_
  have hraise := raise_steps (c := c) (s := u.handInbound) .inboundMissing (some e.lane)
  refine hraise.trans ((handRestart_steps.trans handTally_steps).trans ?_)
  exact followCongestion_steps
    (s := (((u.raise .inboundMissing (some e.lane)).handRestart).handTally).handInbound) hub hun

/-- A timer made absent leaves an inbound entry in its place. -/
theorem same_stopped (e x : Inbound) :
    x.Same (if x = e then { x with travelDue := none } else x) := by
  split
  · exact ⟨rfl, rfl, rfl, rfl, .refl _⟩
  · exact .refl x

theorem stopTravel_steps (hb : s.conf.role = .bay) (e : Inbound) :
    Steps c s (s.setTable { s.table with
      inbound := s.table.inbound.map fun x =>
        if x = e then { x with travelDue := none } else x }) := by
  refine relabel_steps hb ⟨List.forall₂_same.2 fun l _ => .refl l,
    fun _ => List.forall₂_same.2 fun _ _ => .inl rfl, List.forall₂_same.2 fun r _ => .refl r, .inl rfl,
    List.forall₂_map_right_iff.2 (List.forall₂_same.2 fun x _ => same_stopped e x), .inl ?_⟩
  rw [List.map_map]
  refine List.map_congr_left fun x _ => ?_
  rw [Function.comp_apply]
  split <;> rfl

theorem takeTravelExpiry_steps (hb : s.conf.role = .bay) (b : Nat) :
    Steps c s (s.takeTravelExpiry b) := by
  unfold State.takeTravelExpiry
  split
  · exact .refl
  · rename_i e he
    split
    · exact .refl
    · rename_i due _
      dsimp only
      split
      · exact (reach_steps due).trans (stopTravel_steps (s := s.reach due) hb e)
      · rename_i hn
        exact (reach_steps due).trans (entryMissing_steps (s := s.reach due) hb
          (List.mem_of_find?_eq_some he) hn)

theorem same_unlash (b : Nat) (r : Record) : r.Same (r.unlash b) := by
  unfold Record.unlash
  split
  · exact { Record.Same.refl r with }
  · exact .refl r

theorem takeLashExpiry_steps (hb : s.conf.role = .bay) (b : Nat) :
    Steps c s (s.takeLashExpiry b) := by
  unfold State.takeLashExpiry
  split
  · exact .refl
  · rename_i l _
    split
    · exact .refl
    · split
      · exact .refl
      · rename_i due _
        have h := updateLane_steps (c := c) (s := (s.reach due).handLane l.number) hb
          (n := l.number) (f := fun k => { k with placed := k.placed.map (Record.unlash b) })
          fun k _ hk => kept_placed (hk ▸ List.mem_append_right _ (List.mem_singleton.2 rfl))
            (List.forall₂_map_right_iff.2 (List.forall₂_same.2 fun r _ => same_unlash b r))
        exact ((reach_steps due).trans (handLane_steps _)).trans
          (h.trans (raise_steps .lashUnconfirmed (some l.number)))

theorem takeSurveyExpiry_steps (hb : s.conf.role = .bay) : Steps c s s.takeSurveyExpiry := by
  unfold State.takeSurveyExpiry
  split
  · exact .refl
  · rename_i due _
    exact (reach_steps due).trans (expireSurvey_steps (s := s.reach due) hb)

theorem takeListenEnd_steps : Steps c s s.takeListenEnd := by
  unfold State.takeListenEnd
  split
  · exact .refl
  · rename_i due _
    exact ((reach_steps due).tail (.listenDue _ none)).trans maybeActive_steps

theorem takeTallyPeriod_steps (hb : s.conf.role = .bay) : Steps c s s.takeTallyPeriod := by
  unfold State.takeTallyPeriod
  split
  · exact (reach_steps _).trans (buildTally_steps (s := s.reach _) hb)
  all_goals exact .refl

theorem takeTallySpacing_steps (hb : s.conf.role = .bay) : Steps c s s.takeTallySpacing := by
  unfold State.takeTallySpacing State.reachSpacing
  split
  · split
    · exact buildTally_steps hb
    · exact (reach_steps _).trans (buildTally_steps (s := s.reach _) hb)
  · exact .refl

theorem takePeerStale_steps (bay : Nat) : Steps c s (s.takePeerStale bay) := by
  unfold State.takePeerStale
  split
  · exact .refl
  · exact reach_steps _

theorem expireReservation_steps (r : RoundId) : Steps c s (s.expireReservation r) := by
  unfold State.expireReservation
  split
  · exact .refl
  · exact (reach_steps _).trans (releaseRound_steps r)

theorem takeWindowExpiry_steps (hr : s.conf.role = .ramp) : Steps c s s.takeWindowExpiry := by
  unfold State.takeWindowExpiry
  split
  · exact .refl
  · split
    · exact .refl
    · rename_i due _
      exact (reach_steps due).trans (expireWindow_steps (s := s.reach due) hr _)

theorem passNotBefore_steps (b : Nat) : Steps c s (s.passNotBefore b) := by
  unfold State.passNotBefore
  split
  · exact .refl
  · split
    · exact .refl
    · exact (reach_steps _).trans handLook_steps

/-! ## RELEASE, LASH CONFIRM, ACK and ADVANCE PORT -/

theorem releaseOne_steps (hb : s.conf.role = .bay) (rank : Nat) {l : Lane} (hl : l ∈ s.table.lanes) :
    Steps c s (s.releaseOne rank l) := by
  unfold State.releaseOne
  split
  · exact answer_steps _
  · rename_i h
    push Not at h
    obtain ⟨hn, -, hrank⟩ := h
    split
    · exact answer_steps _
    · rename_i rs hrs
      have h := Micro.ranked (c := c) (s.handRestart.handLane l.number) l rs hb hl
        (giveRankRearmost_same hrank hrs) hn (List.mem_append_right _ (List.mem_singleton.2 rfl))
      exact ((handRestart_steps.trans (handLane_steps _)).tail h).trans
        (answer_steps .taken)

theorem same_confirmed (r : Record) : r.Same r.confirmed := by
  unfold Record.confirmed
  split
  · exact { Record.Same.refl r with }
  · exact { Record.Same.refl r with }
  · exact .refl r
  · exact .refl r

/-- A record whose status LASH CONFIRM leaves is left as it is (R133). -/
theorem confirmed_of_status {r : Record} (h : r.confirmed.status = r.status) :
    r.confirmed = r := by
  unfold Record.confirmed at h ⊢
  split at h <;> simp_all

theorem confirmOne_steps (hb : s.conf.role = .bay) {l : Lane} (hl : l ∈ s.table.lanes) :
    Steps c s (s.confirmOne l) := by
  have hsame : ∀ k : Lane, List.Forall₂ Record.Same k.placed (k.placed.map Record.confirmed) :=
    fun k => List.forall₂_map_right_iff.2 (List.forall₂_same.2 fun r _ => same_confirmed r)
  unfold State.confirmOne
  dsimp only
  split
  · have h := updateLane_steps (c := c) (s := s.handLane l.number) hb (n := l.number)
      (f := fun k => { k with placed := k.placed.map Record.confirmed })
      fun k _ hk => kept_placed (hk ▸ List.mem_append_right _ (List.mem_singleton.2 rfl)) (hsame k)
    exact ((handLane_steps _).trans h).trans
      (.head (.cleared _ .lashUnconfirmed (some l.number)) (answer_steps .taken))
  · rename_i hst
    have hall : l.placed.map Record.confirmed = l.placed := by
      refine (List.map_congr_left fun r hr => ?_).trans (List.map_id _)
      exact confirmed_of_status (by
        by_contra hne
        exact hst (List.any_eq_true.2 ⟨r, hr, decide_eq_true hne⟩))
    have h : Steps c s (s.updateLane l.number fun k => { k with
        placed := k.placed.map Record.confirmed }) := by
      refine relabel_steps hb (same_of_lanes ?_ fun hd => ?_)
      · refine List.forall₂_map_right_iff.2 (List.forall₂_same.2 fun k _ => ?_)
        split
        · exact { Lane.Same.refl k with placed := hsame k }
        · exact .refl k
      · refine List.forall₂_map_right_iff.2 (List.forall₂_same.2 fun k hk => .inl ?_)
        split
        · rename_i hn
          obtain rfl := eq_of_number hd hk hl hn
          dsimp only
          rw [hall]
        · rfl
    exact h.trans (.head (.cleared _ .lashUnconfirmed (some l.number)) (answer_steps .taken))

theorem takeAck_steps : Steps c s s.takeAck := by
  refine panelCommand_steps ?_
  split
  · exact answer_steps _
  · split
    · exact answer_steps _
    · rename_i k _
      split
      · have h : Steps c s ((s.clear k.code k.lane).answer .taken) :=
          .head (.cleared s k.code k.lane) (answer_steps .taken)
        dsimp only
        split
        · exact h.trans handLook_steps
        · exact h
      · exact answer_steps _

theorem takeAdvance_steps : Steps c s s.takeAdvance := by
  refine panelCommand_steps ?_
  split
  · rename_i hr
    split
    · exact (actOnAdvance_steps hr.1.2).trans (answer_steps _)
    · split
      · exact answer_steps _
      · exact (rounds_steps (.advance true hr.1.2)).trans (answer_steps _)
  · exact answer_steps _

/-! ## Frames -/

theorem receive_steps (h : RxHeader) (p : Payload) {take : State → State}
    (ht : ∀ u : State, Steps c u (take u)) : Steps c s (s.receive h p take) := by
  unfold State.receive
  split
  · split
    · exact (acknowledge_steps.trans (catchUp_steps _)).trans (ht _)
    · exact acknowledge_steps
  · exact .refl

theorem atBay_steps {take : State → State} (ht : s.conf.role = .bay → Steps c s (take s)) :
    Steps c s (s.atBay take) := by
  unfold State.atBay
  split
  · exact ht ‹_›
  · exact .refl

theorem atRamp_steps {take : State → State} (ht : s.conf.role = .ramp → Steps c s (take s)) :
    Steps c s (s.atRamp take) := by
  unfold State.atRamp
  split
  · exact .refl
  · exact ht ‹_›

theorem answerDecline_steps (hb : s.conf.role = .bay) (r : RoundId) (reason : Byte) :
    Steps c s (s.answerDecline r reason) :=
  handIn_steps (by simp [State.Sends, Payload.fromBay, hb])

theorem releaseRound_conf (r : RoundId) (s : State) : (s.releaseRound r).conf = s.conf :=
  (congrArg State.conf (s.releaseRound_frame r) :)

theorem takeAward_steps (hb : s.conf.role = .bay) (p : AwardPayload) :
    Steps c s (s.takeAward p) := by
  have hdecline : ∀ reason, Steps c s ((s.releaseRound p.round).answerDecline p.round reason) :=
    fun reason => (releaseRound_steps _).trans
      (answerDecline_steps (by rw [releaseRound_conf]; exact hb) _ _)
  unfold State.takeAward
  split
  · unfold State.takeOwnAward
    split
    · split
      · exact .refl
      · exact answerDecline_steps hb _ _
    · rename_i r hr
      split
      · exact hdecline _
      · split
        · exact convert_steps hb (List.mem_of_find?_eq_some hr) ‹_›
        · exact hdecline _
  · exact releaseRound_steps _

theorem takeTallyFrame_steps (hb : s.conf.role = .bay) (source : Byte) (p : TallyPayload) :
    Steps c s (s.takeTallyFrame source p) := by
  have hsettled : Steps c s s.settleRestart := .single (.settled s)
  have hconf : s.settleRestart.conf = s.conf := (congrArg State.conf s.settleRestart_frame :)
  unfold State.takeTallyFrame State.takeTally
  refine hsettled.trans ?_
  generalize s.settleRestart = u at hconf ⊢
  split
  · rename_i h
    exact .single (.tally u _ (.peer (by rw [hconf]; exact hb) _ ⟨h.1, h.2.1⟩))
  · exact .refl

theorem markWithdrawn_steps (source : Byte) : Steps c s (s.markWithdrawn source) :=
  .single (.tally s _ (.marked source))

/-! ## Every command -/

/-- The end of an event when its restart and its TALLY are made: the copy writes begin, and nothing is left
to hand on (R18, R179). -/
def State.written (s : State) : State := s.beginCopyWrites.setHanded HandedOn.clear

/-- With no restart left to make. -/
def State.unasked (s : State) : State := s.setHanded { s.handed with restart := false }

theorem causeTally_unasked (s : State) : s.unasked.causeTally = s.causeTally.unasked := by
  have hdli : s.unasked.dli = s.dli := rfl
  have hspacing : s.unasked.spacingOver = s.spacingOver := rfl
  unfold State.causeTally
  rw [hdli, hspacing]
  by_cases h : s.dli.line = .normal ∧ s.spacingOver = true
  · rw [if_pos h, if_pos h]
    have hu : s.unasked.countBuild.dli.line = .normal := h.1
    have hs : s.countBuild.dli.line = .normal := h.1
    unfold State.buildTally State.handIn
    dsimp only
    rw [hu, hs]
    rfl
  · rw [if_neg h, if_neg h]
    rfl

theorem tallyIfAsked_unasked (s : State) : s.unasked.tallyIfAsked = s.tallyIfAsked.unasked := by
  unfold State.tallyIfAsked
  by_cases h : s.handed.tally = true ∧ s.IsBay
  · have hu : s.unasked.handed.tally = true ∧ s.unasked.IsBay := h
    rw [if_pos h, if_pos hu, causeTally_unasked]
  · have hu : ¬(s.unasked.handed.tally = true ∧ s.unasked.IsBay) := h
    rw [if_neg h, if_neg hu]

theorem settleRestart_eq (s : State) : s.settleRestart = s.restartIfAsked.unasked := by
  have hh : s.restartEvaluation.handed = s.handed := (congrArg State.handed s.restartEvaluation_frame :)
  unfold State.settleRestart State.restartIfAsked State.unasked
  split
  · rw [hh]
  · rename_i h
    rw [← Bool.eq_false_iff.2 h]
    rfl

/-- The end of an event settles its restart, and after its TALLY only the copy writes are left (R18). -/
theorem finish_eq (s : State) :
    s.finish = (((s.settleDrops.lookIfAsked).settleDrops).settleRestart.tallyIfAsked).written := by
  unfold State.finish
  generalize (s.settleDrops.lookIfAsked).settleDrops = u
  rw [settleRestart_eq, tallyIfAsked_unasked]
  generalize u.restartIfAsked.tallyIfAsked = v
  unfold State.written State.beginCopyWrites
  by_cases h : v.node = .unconfigured ∨ v.retained.stopped = true
  · have hv : v.unasked.node = .unconfigured ∨ v.unasked.retained.stopped = true := h
    rw [if_pos h, if_pos hv]
    rfl
  · have hv : ¬(v.unasked.node = .unconfigured ∨ v.unasked.retained.stopped = true) := h
    rw [if_neg h, if_neg hv]
    rfl

theorem tallyIfAsked_steps : Steps c s s.tallyIfAsked := by
  unfold State.tallyIfAsked
  split
  · rename_i h; exact causeTally_steps h.2.2
  · exact .refl

theorem causeTally_handed (s : State) :
    s.causeTally.handed.restart = s.handed.restart := by
  rcases s.causeTally_cases with ⟨_, _, h⟩ | ⟨_, h⟩ <;> rw [h]
  · unfold State.buildTally State.handIn
    dsimp only
    split <;> rfl
  · rfl

theorem tallyIfAsked_restart (s : State) : s.tallyIfAsked.handed.restart = s.handed.restart := by
  unfold State.tallyIfAsked
  split
  · exact causeTally_handed s
  · rfl

/-- The end of an event whose effect a chain of small steps has reached. -/
theorem event_steps {u : State} {f : State → State}
    (h : Steps c u (f (s.setHanded HandedOn.clear))) :
    ∃ v, Steps c u v ∧ v.handed.restart = false ∧ s.event f = v.written := by
  have hlooked := ((h.trans settleDrops_steps).trans lookIfAsked_steps).trans
    settleDrops_steps
  refine ⟨_, (hlooked.tail (.settled _)).trans tallyIfAsked_steps, ?_, finish_eq _⟩
  rw [tallyIfAsked_restart, State.settleRestart_handed]

/-- An effect that a condition on the node guards. -/
theorem guarded_steps {p : Prop} [Decidable p] {t : State} (h : p → Steps c s t) :
    Steps c s (if p then t else s) := by
  split
  · exact h ‹_›
  · exact .refl

/-- Every command is a chain of small steps, from a state with nothing handed on, and then the end of its
event. -/
theorem exec_steps (c : Instr) (s : State) :
    ∃ u, Steps c (s.setHanded HandedOn.clear) u ∧ u.handed.restart = false ∧
      exec c s = .next u.written := by
  suffices h : ∃ f, exec c s = .next (s.event f) ∧
      Steps c (s.setHanded HandedOn.clear) (f (s.setHanded HandedOn.clear)) by
    obtain ⟨f, hf, hs⟩ := h
    obtain ⟨u, hu, hr, he⟩ := event_steps hs
    exact ⟨u, hu, hr, by rw [hf, he]⟩
  have hclear : (s.setHanded HandedOn.clear).handed.restart = false := rfl
  generalize hv : s.setHanded HandedOn.clear = v at hclear ⊢
  induction c with
  | powerOn => exact ⟨_, rfl, .single (.powered v rfl)⟩
  | panelReset =>
    refine ⟨_, rfl, ?_⟩
    unfold State.takePanelReset
    split
    · exact (answer_steps .taken).tail (.closing _ ‹_›)
    all_goals exact .refl
  | start b g => exact ⟨_, rfl, guarded_steps fun hd => takeStart_steps b g hd⟩
  | configurationWrite k => exact ⟨_, rfl, .single (.stored v k rfl)⟩
  | openLane n => exact ⟨_, rfl, laneCommand_steps fun hb l _ => openOne_steps hb l⟩
  | closeLane n => exact ⟨_, rfl, laneCommand_steps fun hb l _ => closeOne_steps hb l⟩
  | openAll =>
    refine ⟨_, rfl, panelCommand_steps ?_⟩
    split
    · rename_i hb; exact openEvery_steps hb.2
    · exact answer_steps _
  | release n rank =>
    exact ⟨_, rfl, laneCommand_steps fun hb l hl => releaseOne_steps hb rank hl⟩
  | lashConfirm n =>
    exact ⟨_, rfl, laneCommand_steps fun hb l hl => confirmOne_steps hb hl⟩
  | ack => exact ⟨_, rfl, takeAck_steps⟩
  | advancePort => exact ⟨_, rfl, takeAdvance_steps⟩
  | stopLineRisingEdge =>
    exact ⟨_, rfl, .head (.stopLine v true) (guarded_steps fun _ => stopEdge_steps)⟩
  | gradientClassChange g =>
    refine ⟨_, rfl, .head (.gradientPin v g) (guarded_steps fun _ => ?_)⟩
    exact (rounds_steps (.gradient g)).trans handLook_steps
  | arrival w check =>
    exact ⟨_, rfl, guarded_steps fun h => takeArrival_steps h.1.2 _⟩
  | call h p =>
    exact ⟨_, rfl, receive_steps h _ fun u =>
      atBay_steps fun hb => takeCall_steps hb _ p⟩
  | offer h p =>
    exact ⟨_, rfl, receive_steps h _ fun u =>
      atRamp_steps fun _ => takeOffer_steps _ _ p⟩
  | award h p =>
    exact ⟨_, rfl, receive_steps h _ fun u =>
      atBay_steps fun hb => takeAward_steps hb p⟩
  | decline h p =>
    exact ⟨_, rfl, receive_steps h _ fun u =>
      atRamp_steps fun _ => takeDecline_steps _ p⟩
  | placed h p =>
    exact ⟨_, rfl, receive_steps h _ fun u =>
      atRamp_steps fun _ => takeArrived_steps _ _ _ _⟩
  | noticeMissing h p =>
    exact ⟨_, rfl, receive_steps h _ fun u =>
      atRamp_steps fun _ => takeArrived_steps _ _ _ _⟩
  | tally h p =>
    exact ⟨_, rfl, receive_steps h _ fun u =>
      atBay_steps fun hb => takeTallyFrame_steps hb _ p⟩
  | noticeWithdrawn h =>
    exact ⟨_, rfl, receive_steps h _ fun u =>
      atBay_steps fun _ => markWithdrawn_steps _⟩
  | portcall h n => exact ⟨_, rfl, receive_steps h _ fun u => .refl⟩
  | enter lane m check =>
    exact ⟨_, rfl, sensorMessage_steps fun hb => unlessWithdrawn_steps hb fun hn =>
      takeEnter_steps hb hn _ _⟩
  | leave lane m check =>
    exact ⟨_, rfl, sensorMessage_steps fun hb => unlessWithdrawn_steps hb fun hn =>
      takeLeave_steps hb hn _ _⟩
  | sensorFault lane check =>
    exact ⟨_, rfl, sensorMessage_steps fun hb => takeFault_steps hb _⟩
  | sensorClear lane check =>
    exact ⟨_, rfl, sensorMessage_steps fun hb => takeClear_steps hb _⟩
  | level lane m check =>
    exact ⟨_, rfl, sensorMessage_steps fun hb => inSurvey_steps fun hn =>
      takeLevel_steps hb hn _ _⟩
  | surveyEnd check =>
    exact ⟨_, rfl, sensorMessage_steps fun hb => inSurvey_steps fun _ =>
      takeEnd_steps hb⟩
  | surveyTimerExpiry =>
    exact ⟨_, rfl, guarded_steps fun hb => takeSurveyExpiry_steps hb.2⟩
  | listenIntervalEnd => exact ⟨_, rfl, guarded_steps fun _ => takeListenEnd_steps⟩
  | transmitStart rivals =>
    exact ⟨_, rfl, guarded_steps fun _ => startAttempt_steps rivals⟩
  | attemptEnd a => exact ⟨_, rfl, guarded_steps fun _ => endAttempt_steps a⟩
  | probeTime => exact ⟨_, rfl, guarded_steps fun _ => takeProbeTime_steps⟩
  | evaluationCompletion =>
    exact ⟨_, rfl, guarded_steps fun hb => takeCompletion_steps hb.2 hclear⟩
  | deadlineExpiry r =>
    exact ⟨_, rfl, guarded_steps fun hb => takeDeadline_steps hb.2 r⟩
  | reservationExpiry r =>
    exact ⟨_, rfl, guarded_steps fun _ => expireReservation_steps r⟩
  | windowTimerExpiry =>
    exact ⟨_, rfl, guarded_steps fun hr => takeWindowExpiry_steps hr.2⟩
  | notBeforeTimePasses b =>
    exact ⟨_, rfl, guarded_steps fun _ => passNotBefore_steps b⟩
  | travelTimerExpiry b =>
    exact ⟨_, rfl, guarded_steps fun hb => takeTravelExpiry_steps hb.2 b⟩
  | lashTimerExpiry b =>
    exact ⟨_, rfl, guarded_steps fun hb => takeLashExpiry_steps hb.2 b⟩
  | tallyPeriod => exact ⟨_, rfl, guarded_steps fun hb => takeTallyPeriod_steps hb.2⟩
  | tallySpacingEnd =>
    exact ⟨_, rfl, guarded_steps fun hb => takeTallySpacing_steps hb.2⟩
  | peerEntryStale bay =>
    exact ⟨_, rfl, guarded_steps fun _ => takePeerStale_steps bay⟩
  | copyWriteCompletion part => exact ⟨_, rfl, .single (.completed v part rfl)⟩

/-! ## How an invariant follows -/

/-- What every small step keeps, a chain keeps. -/
theorem Steps.keeps {Q : State → Prop} (hm : ∀ u v, Micro c u v → Q u → Q v) {t : State}
    (h : Steps c s t) (hs : Q s) : Q t := by
  induction h with
  | refl => exact hs
  | tail _ hstep ih => exact hm _ _ hstep ih

/-- A property of the states between commands is kept by a command when it gives, with nothing handed on, one
of the states within a command that every small step keeps and that the copy writes turn back into it. -/
theorem exec_keeps {P Q : State → Prop} (hin : ∀ u, P u → Q (u.setHanded HandedOn.clear))
    (hm : ∀ u v, Micro c u v → Q u → Q v)
    (hout : ∀ u, u.handed.restart = false → Q u → P u.written) {t : State}
    (h : exec c s = .next t) (hs : P s) : P t := by
  obtain ⟨u, hu, hr, he⟩ := exec_steps c s
  obtain rfl : u.written = t := Host.Outcome.next.inj (he.symm.trans h)
  exact hout u hr (Steps.keeps hm hu (hin s hs))

/-- The same of a step. -/
theorem step_keeps {P Q : State → Prop} (hp : ∀ u q, P u → P (u.setPending q))
    (ht : ∀ u, P u → P u.tick) (hin : ∀ u, P u → Q (u.setHanded HandedOn.clear))
    (hm : ∀ c u v, Micro c u v → Q u → Q v)
    (hout : ∀ u, u.handed.restart = false → Q u → P u.written) {t : State}
    (h : step s = .next t) (hs : P s) : P t := by
  unfold step at h
  split at h
  · obtain rfl : s.tick = t := Host.Outcome.next.inj h
    exact ht s hs
  · exact exec_keeps hin (hm _) hout h (hp s _ hs)

end Sys2Proof.Machine
end

section
/-! PROOFS. The invariants of the condition list, the configuration and the two roles, and the frame of a
command. -/

namespace Sys2Proof.Machine

open Sys2Proof

variable {c : Instr} {s u v : State}

/-! ## Shapes of the small steps that are not one update -/

/-- The copy writes change the retained copy alone. -/
theorem State.written_eq (s : State) :
    ∃ r, s.written = (s.setRetained r).setHanded HandedOn.clear := by
  unfold State.written State.beginCopyWrites
  split
  · exact ⟨s.retained, rfl⟩
  · exact ⟨_, rfl⟩

/-- Settling a restart changes the evaluation in flight alone. -/
theorem State.settleRestart_shape (s : State) :
    ∃ v h, s.settleRestart = (s.setEval { s.eval with inFlight := v }).setHanded h := by
  unfold State.settleRestart State.restartEvaluation
  split
  · split
    · exact ⟨s.eval.inFlight, _, rfl⟩
    · exact ⟨_, _, rfl⟩
  · exact ⟨s.eval.inFlight, s.handed, rfl⟩

/-- The completion of a write changes the retained copy alone. -/
theorem State.completeWrite_shape (part : CopyPart) (s : State) :
    ∃ r, s.completeWrite part = s.setRetained r := by
  cases part <;> exact ⟨_, rfl⟩

/-- The three outcomes of a start: UNCONFIGURED, a bay, a ramp (R178). -/
theorem booted_cases (b : Bool) (g : Fin 4) (s : State) :
    (loadConfig s.store = none ∧ s.booted b g = (s.discarded.setStopLine b).setGradientPin g) ∨
    ∃ k altered, loadConfig s.store = some (k, altered) ∧
      ((k.role = .bay ∧ ∃ h, s.booted b g =
          ((s.loading b g k).restoreBay.setNode .listen).setHanded h) ∨
        (k.role = .ramp ∧ s.booted b g = (s.loading b g k).restoreRamp.setNode .listen)) := by
  cases hload : loadConfig s.store with
  | none => exact .inl ⟨rfl, booted_none b g hload⟩
  | some x =>
    obtain ⟨k, altered⟩ := x
    rw [booted_some b g hload]
    refine .inr ⟨k, altered, rfl, ?_⟩
    cases hk : k.role with
    | bay => exact .inl ⟨rfl, _, handStartWrites_eq _⟩
    | ramp => exact .inr ⟨rfl, rfl⟩

/-- A property that says nothing of the queue of commands, the retained copy and what is handed on is kept
by every step when every small step keeps it. -/
theorem step_keeps_of_micro {P : State → Prop} (hp : ∀ u q, P u → P (u.setPending q))
    (hr : ∀ u r h, P u → P ((u.setRetained r).setHanded h))
    (hm : ∀ c u v, Micro c u v → P u → P v) {t : State} (h : step s = .next t) (hs : P s) : P t :=
  step_keeps hp (fun u => hm .ack u u.tick (.clock u _ (Nat.le_succ _)))
    (fun u => hr u u.retained HandedOn.clear) hm
    (fun u _ hu => by obtain ⟨r, he⟩ := u.written_eq; rw [he]; exact hr u r _ hu) h hs

/-! ## The condition list (R164, R165) -/

/-- A list of conditions in age order, without doubles and in range, as of a time. -/
abbrev ConditionsOrdered (now : Nat) (cs : List Condition) : Prop :=
  (cs.map fun c => (c.code, c.lane)).Nodup ∧
  (∀ c ∈ cs, 1 ≤ c.count ∧ c.count ≤ Config.maxCount ∧ c.age ≤ now) ∧
  cs.Pairwise fun c d => c.age ≤ d.age

theorem ConditionsOrdered.sublist {now : Nat} {cs ds : List Condition} (hs : ds.Sublist cs)
    (h : ConditionsOrdered now cs) : ConditionsOrdered now ds :=
  ⟨h.1.sublist (hs.map _), fun c hc => h.2.1 c (hs.subset hc), h.2.2.sublist hs⟩

theorem merged_count {c : Condition} (h : 1 ≤ c.count ∧ c.count ≤ Config.maxCount) :
    1 ≤ c.merged.count ∧ c.merged.count ≤ Config.maxCount := by
  unfold Condition.merged
  dsimp only
  split <;> omega

theorem isFor_iff {code : Code} {lane : Option Nat} {c : Condition} :
    c.isFor code lane = true ↔ (c.code, c.lane) = (code, lane) := by
  simp [Condition.isFor]

/-- A new entry, of a code and lane that are not in the list, is the newest (R164). -/
theorem ConditionsOrdered.append {now : Nat} {code : Code} {lane : Option Nat} {cs : List Condition}
    (h : ConditionsOrdered now cs) (hnew : (code, lane) ∉ cs.map fun c => (c.code, c.lane)) :
    ConditionsOrdered now (cs ++ [{ code := code, lane := lane, count := 1, age := now }]) := by
  obtain ⟨hnodup, hrange, hages⟩ := h
  refine ⟨?_, fun c hc => ?_, ?_⟩
  · rw [List.map_append, List.nodup_append]
    refine ⟨hnodup, List.nodup_singleton _, fun x hx y hy => ?_⟩
    rw [List.map_singleton, List.mem_singleton] at hy
    rintro rfl
    exact hnew (hy ▸ hx)
  · rcases List.mem_append.1 hc with hc | hc
    · exact hrange c hc
    · rw [List.mem_singleton.1 hc]; exact ⟨Nat.le_refl 1, Nat.one_le_ofNat, Nat.le_refl _⟩
  · rw [List.pairwise_append]
    exact ⟨hages, List.pairwise_singleton _ _, fun x hx y hy => by
      rw [List.mem_singleton.1 hy]; exact (hrange x hx).2.2⟩

theorem raiseCondition_ordered {now : Nat} {cs : List Condition} (code : Code) (lane : Option Nat)
    (h : ConditionsOrdered now cs) : ConditionsOrdered now (raiseCondition now code lane cs) := by
  unfold raiseCondition
  split
  · obtain ⟨hnodup, hrange, hages⟩ := h
    have hkey : ∀ c : Condition,
        ((if c.isFor code lane then c.merged else c).code,
          (if c.isFor code lane then c.merged else c).lane) = (c.code, c.lane) := by
      intro c; split <;> rfl
    have hage : ∀ c : Condition, (if c.isFor code lane then c.merged else c).age = c.age := by
      intro c; split <;> rfl
    refine ⟨?_, ?_, ?_⟩
    · rw [List.map_map]
      exact (List.map_congr_left fun c _ => hkey c) ▸ hnodup
    · intro c hc
      obtain ⟨d, hd, rfl⟩ := List.mem_map.1 hc
      obtain ⟨hlo, hhi, hold⟩ := hrange d hd
      have hcount : 1 ≤ (if d.isFor code lane then d.merged else d).count ∧
          (if d.isFor code lane then d.merged else d).count ≤ Config.maxCount := by
        split
        · exact merged_count ⟨hlo, hhi⟩
        · exact ⟨hlo, hhi⟩
      exact ⟨hcount.1, hcount.2, by rw [hage]; exact hold⟩
    · rw [List.pairwise_map]
      exact hages.imp fun {a b} hab => by rw [hage, hage]; exact hab
  · rename_i hany
    have hnew : (code, lane) ∉ cs.map fun c => (c.code, c.lane) := fun hmem => by
      obtain ⟨d, hd, he⟩ := List.mem_map.1 hmem
      exact hany (List.any_eq_true.2 ⟨d, hd, isFor_iff.2 he⟩)
    dsimp only
    split
    · exact h.append hnew
    · split
      · have hsub : (cs.eraseP fun c => decide (c.code.level = lowestLevel cs)).Sublist cs :=
          List.eraseP_sublist
        exact (h.sublist hsub).append fun hmem => hnew ((hsub.map _).subset hmem)
      · exact h

theorem Micro.conditionOrder (h : Micro c u v) (hu : u.ConditionOrder) : v.ConditionOrder := by
  induction h with
  | clock n hn => exact ⟨hu.1, fun d hd =>
      ⟨(hu.2.1 d hd).1, (hu.2.1 d hd).2.1, (hu.2.1 d hd).2.2.trans hn⟩, hu.2.2⟩
  | raised code lane => exact raiseCondition_ordered code lane hu
  | cleared code lane => exact ConditionsOrdered.sublist List.eraseP_sublist hu
  | started b g hc hd =>
    have hnil : (u.booted b g).conditions = [] := by
      rcases booted_cases b g u with ⟨_, h⟩ | ⟨k, _, _, ⟨_, _, h⟩ | ⟨_, h⟩⟩ <;> rw [h] <;> rfl
    unfold State.ConditionOrder
    rw [hnil]
    exact ⟨List.nodup_nil, fun _ hd => absurd hd List.not_mem_nil, List.Pairwise.nil⟩
  | settled =>
    obtain ⟨e, h, he⟩ := u.settleRestart_shape
    rw [he]; exact hu
  | completed part =>
    obtain ⟨r, hr⟩ := u.completeWrite_shape part
    rw [hr]; exact hu
  | _ => exact hu

/-- Settles O11: only a raising adds an entry or changes one. -/
theorem conditionOrderKept : Obligations.ConditionOrderKept := fun _ _ h =>
  step_keeps_of_micro (fun _ _ => id) (fun _ _ _ => id) (fun _ _ _ => Micro.conditionOrder) h

end Sys2Proof.Machine
end

section
/-! PROOFS. The configuration in force lies in its ranges, whatever the store holds (R178). -/

namespace Sys2Proof.Machine

open Sys2Proof

variable {c : Instr} {s u v : State}

/-! ## Clamped values -/

theorem clamp_limits {lo hi : Int} (h : lo ≤ hi) (v : Int) : inLimits lo hi (clamp lo hi v) := by
  unfold clamp; omega

theorem clamp_toNat {lo hi : Nat} (h : lo ≤ hi) (v : Int) :
    lo ≤ (clamp lo hi v).toNat ∧ (clamp lo hi v).toNat ≤ hi := by
  have := clamp_limits (Int.ofNat_le.2 h) v
  omega

theorem lowMark_lt {high : Int} (hh : 1 ≤ high) (low : Int) (top : Int) (ht : 0 ≤ top) :
    (lowMark high low top).toNat < high.toNat := by
  unfold lowMark
  have := clamp_limits ht low
  omega

theorem loadedWindow_inRange (w : Int) :
    100 ≤ (loadedWindow w).toNat ∧ (loadedWindow w).toNat ≤ 2000 ∧ (loadedWindow w).toNat % 10 = 0 := by
  have hlo : 100 ≤ loadedWindow w := le_max_left _ _
  have hhi : loadedWindow w ≤ 2000 := max_le (by decide) (min_le_left _ _)
  have hmod : loadedWindow w % 10 = 0 := by
    rcases max_choice (100 : Int) (min 2000 (10 * (w / 10))) with h | h
    · exact congrArg (· % 10) h
    · rcases min_choice (2000 : Int) (10 * (w / 10)) with h' | h'
      · exact congrArg (· % 10) (h.trans h')
      · exact (congrArg (· % 10) (h.trans h')).trans (Int.mul_emod_right _ _)
  omega

/-! ## The lanes that are loaded -/

/-- The lane numbers that are loaded are distinct and lie in 0..7. -/
theorem keptLanes_sound (es : List LaneEntry) :
    ((keptLanes es).map (·.number)).Nodup ∧ ∀ e ∈ keptLanes es, 0 ≤ e.number ∧ e.number ≤ 7 := by
  unfold keptLanes
  refine List.foldlRecOn es _
    (motive := fun (acc : List LaneEntry) => (acc.map (·.number)).Nodup ∧ ∀ e ∈ acc, 0 ≤ e.number ∧ e.number ≤ 7)
    (And.intro (b := ∀ e ∈ ([] : List LaneEntry), 0 ≤ e.number ∧ e.number ≤ 7)
      (List.nodup_nil (α := Int)) fun _ h => absurd h List.not_mem_nil) ?_
  rintro acc ⟨hnodup, hrange⟩ e _
  split
  · rename_i h
    obtain ⟨hlo, hhi, hnew⟩ := h
    refine ⟨?_, fun k hk => ?_⟩
    · rw [List.map_append, List.nodup_append]
      refine ⟨hnodup, List.nodup_singleton _, fun x hx y hy => ?_⟩
      obtain ⟨k, hk, rfl⟩ := List.mem_map.1 hx
      rw [List.map_singleton, List.mem_singleton] at hy
      rw [hy]
      simpa using List.any_eq_false.1 hnew k hk
    · rcases List.mem_append.1 hk with hk | hk
      · exact hrange k hk
      · rw [List.mem_singleton.1 hk]; exact ⟨hlo, hhi⟩
  · exact ⟨hnodup, hrange⟩

/-- The loaded lanes, number by number. -/
theorem sortedLanes_eq (es : List LaneEntry) :
    sortedLanes es = (List.range 8).filterMap fun (n : Nat) =>
      (es.find? fun e => decide (e.number = (n : Int))).map LaneEntry.conf := by
  unfold sortedLanes
  have hnums : ((List.range 8).flatMap fun (a : Nat) => (pure (a : Int) : List Int)) =
      (List.range 8).map fun (n : Nat) => (n : Int) := rfl
  rw [List.bind_eq_flatMap, hnums, List.filterMap_map]
  rfl

/-- A loaded lane comes from an entry of its number. -/
theorem mem_sortedLanes {es : List LaneEntry} {k : LaneConf} (h : k ∈ sortedLanes es) :
    ∃ n : Nat, n ≤ 7 ∧ ∃ e ∈ es, e.number = (n : Int) ∧ k = LaneEntry.conf e := by
  rw [sortedLanes_eq] at h
  obtain ⟨n, hn, hk⟩ := List.mem_filterMap.1 h
  obtain ⟨e, he, rfl⟩ := Option.map_eq_some_iff.1 hk
  exact ⟨n, Nat.lt_succ_iff.1 (List.mem_range.1 hn), e, List.mem_of_find?_eq_some he,
    by simpa using List.find?_some he, rfl⟩

/-- The lanes of a number that is loaded stand in the order of their numbers. -/
theorem sortedLanes_numbers (es : List LaneEntry) :
    (sortedLanes es).map (·.number) =
      (List.range 8).filter fun (n : Nat) => (es.find? fun e => decide (e.number = (n : Int))).isSome := by
  rw [sortedLanes_eq, List.map_filterMap, ← List.filterMap_eq_filter]
  refine List.filterMap_congr fun n _ => ?_
  cases h : es.find? fun e => decide (e.number = (n : Int)) with
  | none => rw [Option.guard, if_neg (by rw [h]; decide)]; rfl
  | some e =>
    have hn : e.number = (n : Int) := by simpa using List.find?_some h
    rw [Option.guard, if_pos (by rw [h]; rfl)]
    simp [LaneEntry.conf, hn]

theorem sortedLanes_nodup (es : List LaneEntry) : ((sortedLanes es).map (·.number)).Nodup := by
  rw [sortedLanes_numbers]
  exact List.nodup_range.filter _

theorem sortedLanes_length (es : List LaneEntry) : (sortedLanes es).length ≤ 8 := by
  rw [sortedLanes_eq]
  exact (List.length_filterMap_le _ _).trans (by simp)

theorem sortedLanes_ne_nil {es : List LaneEntry} (h : es ≠ [])
    (hr : ∀ e ∈ es, 0 ≤ e.number ∧ e.number ≤ 7) : sortedLanes es ≠ [] := by
  obtain ⟨e, he⟩ := List.exists_mem_of_ne_nil es h
  obtain ⟨hlo, hhi⟩ := hr e he
  have hn : e.number.toNat ∈ (sortedLanes es).map (·.number) := by
    rw [sortedLanes_numbers, List.mem_filter, List.mem_range, List.find?_isSome]
    exact ⟨by omega, e, he, by simp; omega⟩
  rintro hnil
  rw [hnil] at hn
  cases hn

theorem clamped_inRange {e : LaneEntry} (hlo : 0 ≤ e.number) (hhi : e.number ≤ 7) :
    (LaneEntry.conf (LaneEntry.clamped e)).InRange := by
  refine ⟨?_, clamp_limits (by decide) _, clamp_limits (by decide) _, clamp_limits (by decide) _,
    clamp_limits (by decide) _, (clamp_toNat (lo := 0) (hi := 12) (by decide) _).2⟩
  show e.number.toNat ≤ 7
  omega

/-! ## The scan order and the deck mask -/

theorem loadedScan_perm (numbers : List Nat) (scan : List Int) :
    (loadedScan numbers scan).Perm numbers := by
  unfold loadedScan
  split
  · rename_i h
    simp only [scanValid, Bool.and_eq_true, decide_eq_true_iff, List.all_eq_true,
      List.any_eq_true] at h
    obtain ⟨⟨hlen, hnodup⟩, hmem⟩ := h
    have hof : (scan.map Int.toNat).map Int.ofNat = scan := by
      rw [List.map_map]
      refine (List.map_congr_left fun x hx => ?_).trans (List.map_id _)
      obtain ⟨k, _, rfl⟩ := hmem x hx
      rfl
    have hd : (scan.map Int.toNat).Nodup := .of_map Int.ofNat (hof.symm ▸ hnodup)
    refine List.Subperm.perm_of_length_le (List.subperm_of_subset hd fun n hx => ?_) (by simp [hlen])
    obtain ⟨x, hscan, rfl⟩ := List.mem_map.1 hx
    obtain ⟨k, hk, rfl⟩ := hmem x hscan
    simpa using hk
  · exact numbers.reverse_perm

/-- A mask names a deck exactly when one of its bits 0..5 is set (R178). -/
theorem exists_deck {m : Byte} (h : m &&& 0x3F ≠ 0) :
    ∃ k : Fin 6, maskHasDeck (m &&& 0x3F) (k.val + 1) = true := by
  by_contra hno
  push Not at hno
  refine h (BitVec.eq_of_getLsbD_eq fun i hi => ?_)
  have hzero : BitVec.getLsbD (0 : Byte) i = false := BitVec.getLsbD_zero
  rw [hzero]
  by_cases hs : i < 6
  · have hk := hno ⟨i, hs⟩
    simp only [maskHasDeck, Nat.add_sub_cancel, Nat.le_add_left, decide_true, Bool.true_and,
      show i + 1 ≤ 6 from hs] at hk
    exact Bool.eq_false_iff.2 hk
  · rw [BitVec.getLsbD_and]
    obtain rfl | rfl : i = 6 ∨ i = 7 := by omega
    · exact Bool.and_false _
    · exact Bool.and_false _

theorem loadedMask_named (m : Byte) {d : Int} (hd : 1 ≤ d ∧ d ≤ 6) : loadedMask m d &&& 0x3F ≠ 0 := by
  unfold loadedMask namesNoDeck
  split
  · obtain ⟨k, hk⟩ : ∃ k : Fin 6, d.toNat - 1 = k.val := ⟨⟨d.toNat - 1, by omega⟩, rfl⟩
    have hall : ∀ k : Fin 6, ((1 : Byte) <<< k.val) &&& 0x3F ≠ 0 := by decide
    rw [hk]
    exact hall k
  · rename_i h
    simpa using h

/-! ## The configuration -/

theorem keptLevels_range {ls : List Int} {n : Nat} (h : n ∈ (keptLevels ls).map Int.toNat) :
    1 ≤ n ∧ n ≤ 6 := by
  obtain ⟨l, hl, rfl⟩ := List.mem_map.1 h
  have := (List.mem_filter.1 hl).2
  simp only [Bool.and_eq_true, decide_eq_true_iff] at this
  omega

/-- The lane entries of a store as it is loaded. -/
def ConfigStore.loadedLanes (k : ConfigStore) : List LaneEntry := (keptLanes k.lanes).map LaneEntry.clamped

theorem loadedLanes_range (k : ConfigStore) :
    ∀ e ∈ (ConfigStore.loadedLanes k), 0 ≤ e.number ∧ e.number ≤ 7 := by
  intro e he
  obtain ⟨d, hd, rfl⟩ := List.mem_map.1 he
  exact (keptLanes_sound k.lanes).2 d hd

theorem lanes_inRange (k : ConfigStore) :
    ∀ l ∈ sortedLanes (ConfigStore.loadedLanes k), l.InRange := by
  intro l hl
  obtain ⟨n, hn, e, he, hnum, rfl⟩ := mem_sortedLanes hl
  obtain ⟨d, hd, rfl⟩ := List.mem_map.1 he
  obtain ⟨hlo, hhi⟩ := (keptLanes_sound k.lanes).2 d hd
  exact clamped_inRange hlo hhi

theorem conf_bayInRange (k : ConfigStore) : (ConfigStore.conf (ConfigStore.loaded k)).BayInRange := by
  have limits := fun (lo hi : Nat) (h : lo ≤ hi) (v : Int) => clamp_toNat h v
  have hscan : (ConfigStore.conf (ConfigStore.loaded k)).scanOrder.Perm ((sortedLanes (ConfigStore.loadedLanes k)).map (·.number)) := by
    have heq : (ConfigStore.conf (ConfigStore.loaded k)).scanOrder =
        loadedScan ((sortedLanes (ConfigStore.loadedLanes k)).map (·.number)) k.scanOrder := by
      show (List.map Int.ofNat _).map Int.toNat = _
      rw [List.map_map]
      exact (List.map_congr_left fun _ _ => rfl).trans (List.map_id _)
    rw [heq]
    exact loadedScan_perm _ _
  refine ⟨?_, sortedLanes_length _, lanes_inRange k, sortedLanes_nodup _, hscan,
    clamp_limits (by decide) _, clamp_limits (by decide) _, clamp_limits (by decide) _,
    clamp_limits (by decide) _, clamp_limits (by decide) _, clamp_limits (by decide) _,
    clamp_limits (by decide) _, clamp_limits (by decide) _, clamp_limits (by decide) _,
    clamp_limits (by decide) _, clamp_limits (by decide) _, clamp_limits (by decide) _,
    ?_, ?_, lowMark_lt (clamp_limits (by decide) _).1 _ _ (by decide), ?_,
    (limits 0 3 (by decide) _).2⟩
  · have := limits 1 48 (by decide) k.nodeNumber
    exact ⟨Int.ofNat_le.2 this.1, Int.ofNat_le.2 this.2⟩
  · have := limits 200 5000 (by decide) k.awardGrace
    exact ⟨Int.ofNat_le.2 this.1, Int.ofNat_le.2 this.2⟩
  · have := limits 1 6 (by decide) k.congestHigh
    exact ⟨Int.ofNat_le.2 this.1, Int.ofNat_le.2 this.2⟩
  · have := limits 60 1800 (by decide) k.travelLimit
    exact ⟨Int.ofNat_le.2 this.1, Int.ofNat_le.2 this.2⟩

theorem conf_rampInRange (k : ConfigStore) : (ConfigStore.conf (ConfigStore.loaded k)).RampInRange := by
  have cast : ∀ {lo hi n : Nat}, lo ≤ n ∧ n ≤ hi → inLimits lo hi n :=
    fun h => ⟨Int.ofNat_le.2 h.1, Int.ofNat_le.2 h.2⟩
  obtain ⟨hlo, hhi, hmod⟩ := loadedWindow_inRange k.offerWindow
  exact ⟨(clamp_toNat (lo := 0) (hi := 3) (by decide) _).2, cast ⟨hlo, hhi⟩, hmod,
    exists_deck (loadedMask_named _ (clamp_limits (by decide) _)),
    cast (clamp_toNat (lo := 1) (hi := 5) (by decide) _),
    cast (clamp_toNat (lo := 2) (hi := 60) (by decide) _),
    cast (clamp_toNat (lo := 1) (hi := 16) (by decide) _),
    lowMark_lt (clamp_limits (by decide) _).1 _ _ (by decide)⟩

/-- Whatever is loaded lies in its ranges (R178). -/
theorem loadConfig_inRange {k : ConfigStore} {x : Conf × Bool} (h : loadConfig k = some x) :
    x.1.InRange := by
  have cast : ∀ {lo hi n : Nat}, lo ≤ n ∧ n ≤ hi → inLimits lo hi n :=
    fun h => ⟨Int.ofNat_le.2 h.1, Int.ofNat_le.2 h.2⟩
  unfold loadConfig at h
  split at h
  · cases h
  · rename_i husable
    obtain rfl := Option.some.inj h
    refine ⟨cast (clamp_toNat (lo := 1) (hi := 6) (by decide) _),
      cast (clamp_toNat (lo := 5) (hi := 60) (by decide) _), fun _ => keptLevels_range,
      conf_bayInRange k, conf_rampInRange k, fun hrole => ?_⟩
    have hbay : k.role ≠ .neither ∧ k.role ≠ .ramp := by
      constructor <;> intro hk
      · exact husable (by simp [ConfigStore.unusable, hk])
      · have : (ConfigStore.conf (ConfigStore.loaded k)).role = .ramp := by
          simp [ConfigStore.conf, ConfigStore.loaded, hk]
        rw [this] at hrole; cases hrole
    have hne : keptLanes k.lanes ≠ [] := fun hnil => by
      cases hk : k.role with
      | bay => exact husable (by simp [ConfigStore.unusable, hk, hnil])
      | ramp => exact hbay.2 hk
      | neither => exact hbay.1 hk
    exact List.length_pos_iff.2 (sortedLanes_ne_nil (es := (ConfigStore.loadedLanes k))
      (by simpa [ConfigStore.loadedLanes] using hne) (loadedLanes_range k))

theorem Micro.confInRange (h : Micro c u v) (hu : u.ConfInRange) : v.ConfInRange := by
  induction h with
  | node n hn =>
    refine fun _ => hu fun hun => ?_
    induction hn with
    | active h => simp [hun] at h
    | recovery h _ _ => simp [hun] at h
    | withdrawn h => simp [hun] at h
  | started b g hc hd =>
    rcases booted_cases b g u with ⟨_, h⟩ | ⟨k, altered, hload, ⟨_, _, h⟩ | ⟨_, h⟩⟩ <;> rw [h]
    · exact fun hn => absurd rfl hn
    · exact fun _ => loadConfig_inRange hload
    · exact fun _ => loadConfig_inRange hload
  | settled =>
    obtain ⟨e, h, he⟩ := u.settleRestart_shape
    rw [he]; exact hu
  | completed part =>
    obtain ⟨r, hr⟩ := u.completeWrite_shape part
    rw [hr]; exact hu
  | _ => exact hu

/-- Settles O12: only a start loads a configuration, and what it loads lies in range. -/
theorem configurationKeptInRange : Obligations.ConfigurationKeptInRange := fun _ _ h =>
  step_keeps_of_micro (fun _ _ => id) (fun _ _ _ => id) (fun _ _ _ => Micro.confInRange) h

end Sys2Proof.Machine
end

section
/-! PROOFS. The transmit queue: its order and bounds through every operation, and the frames of the two
roles (R150 to R154, R160, R161). -/

namespace Sys2Proof.Machine

open Sys2Proof

variable {c : Instr} {s u v : State} {d : Dli} {f g : QFrame}

/-! ## The order of the queue (R151) -/

theorem before_trans {h : QFrame} (hfg : f.before g) (hgh : g.before h) : f.before h := by
  rcases hfg with h₁ | ⟨h₁, a₁⟩ <;> rcases hgh with h₂ | ⟨h₂, a₂⟩ <;> unfold QFrame.before <;> omega

theorem not_before (h : f.before g) : ¬ g.before f := by
  rcases h with h | ⟨h, a⟩ <;> rintro (h' | ⟨h', a'⟩) <;> omega

/-- A frame newer than all others enters at the tail of its class (R151). -/
theorem enqueue_pairwise {q : List QFrame} (hq : q.Pairwise QFrame.before)
    (hnew : ∀ g ∈ q, g.age < f.age) : (enqueue f q).Pairwise QFrame.before := by
  induction q with
  | nil => exact List.pairwise_singleton _ _
  | cons g q ih =>
    obtain ⟨hg, htail⟩ := List.pairwise_cons.1 hq
    unfold enqueue
    split
    · rename_i hlt
      refine List.pairwise_cons.2 ⟨fun k hk => ?_, hq⟩
      rcases List.mem_cons.1 hk with rfl | hk
      · exact .inl hlt
      · exact before_trans (.inl hlt) (hg k hk)
    · rename_i hle
      refine List.pairwise_cons.2 ⟨fun k hk => ?_, ih htail fun k hk => hnew k (.tail g hk)⟩
      rcases List.mem_cons.1 ((enqueue_perm f q).mem_iff.1 hk) with rfl | hk
      · rcases Nat.lt_or_eq_of_le (Nat.le_of_not_lt hle) with h | h
        · exact .inl h
        · exact .inr ⟨h, hnew g List.mem_cons_self⟩
      · exact hg k hk

/-! ## What a frame handed in does (R152, R153) -/

/-- The four ways in which a frame is handed in in NORMAL: it replaces a TALLY, it is queued, it is refused,
or another is evicted for it. -/
theorem handInNormal_cases (callNumber : Byte) (p : Payload) (d : Dli) :
    (p.isTally = true ∧ d.holdsTally = true ∧
      d.handInNormal callNumber p =
        (Dli.put (d.newFrame callNumber p) (d.takeOut Payload.isTally), [])) ∨
    ((p.isTally && d.holdsTally) = false ∧ d.queue.length < Config.maxQueued ∧
      d.handInNormal callNumber p = (d.put (d.newFrame callNumber p), [])) ∨
    ((p.isTally && d.holdsTally) = false ∧ Config.maxQueued ≤ d.queue.length ∧
      d.handInNormal callNumber p = (d, p.dropReport)) ∨
    ((p.isTally && d.holdsTally) = false ∧ Config.maxQueued ≤ d.queue.length ∧
      ∃ victim ∈ d.others, p.cls ≤ victim.cls ∧
        d.handInNormal callNumber p =
          (Dli.put (d.newFrame callNumber p)
            { d with queue := d.queue.filter fun g => decide (g.age ≠ victim.age) },
            victim.payload.dropReport)) := by
  unfold Dli.handInNormal
  dsimp only
  split
  · rename_i h
    rw [Bool.and_eq_true] at h
    exact .inl ⟨h.1, h.2, rfl⟩
  · rename_i h
    refine .inr ?_
    rw [Bool.not_eq_true] at h
    split
    · exact .inl ⟨h, ‹_›, rfl⟩
    · rename_i hlen
      refine .inr ?_
      unfold Dli.handInFull
      split
      · exact .inl ⟨h, Nat.le_of_not_lt hlen, rfl⟩
      · rename_i victim hv
        split
        · exact .inl ⟨h, Nat.le_of_not_lt hlen, rfl⟩
        · rename_i hcls
          exact .inr ⟨h, Nat.le_of_not_lt hlen, victim, List.mem_of_getLast? hv,
            Nat.le_of_not_lt hcls, rfl⟩

/-- A frame taken through `takeOut` keeps its payload, its age and its attempts (R153, R154). -/
theorem taken_some {sel : Payload → Bool} (h : g ∈ QFrame.taken d sel f) :
    g.payload = f.payload ∧ g.age = f.age ∧ g.attempts = f.attempts ∧
      ((sel f.payload = true ∧ d.carries f = true ∧ g.leaving = true) ∨
        (sel f.payload = false ∧ g = f)) := by
  unfold QFrame.taken at h
  split at h
  · split at h
    · obtain rfl := Option.some.inj h
      exact ⟨rfl, rfl, rfl, .inl ⟨‹_›, ‹_›, rfl⟩⟩
    · cases h
  · obtain rfl := Option.some.inj h
    exact ⟨rfl, rfl, rfl, .inr ⟨Bool.eq_false_iff.2 ‹_›, rfl⟩⟩

theorem mem_takeOut {sel : Payload → Bool} (h : g ∈ (d.takeOut sel).queue) :
    ∃ f ∈ d.queue, g ∈ QFrame.taken d sel f := List.mem_filterMap.1 h

theorem mem_put (h : g ∈ (d.put f).queue) : g = f ∨ g ∈ d.queue :=
  List.mem_cons.1 ((enqueue_perm f d.queue).mem_iff.1 h)

/-- No payload comes into the queue but the one handed in. -/
theorem handInNormal_payload {callNumber : Byte} {p : Payload}
    (h : g ∈ (d.handInNormal callNumber p).1.queue) :
    g.payload = p ∨ ∃ f ∈ d.queue, f.payload = g.payload := by
  rcases handInNormal_cases callNumber p d with
    ⟨_, _, he⟩ | ⟨_, _, he⟩ | ⟨_, _, he⟩ | ⟨_, _, victim, _, _, he⟩ <;> rw [he] at h
  · rcases mem_put h with rfl | hg
    · exact .inl rfl
    · obtain ⟨f, hf, hg⟩ := mem_takeOut hg
      exact .inr ⟨f, hf, (taken_some hg).1.symm⟩
  · rcases mem_put h with rfl | hg
    · exact .inl rfl
    · exact .inr ⟨g, hg, rfl⟩
  · exact .inr ⟨g, h, rfl⟩
  · rcases mem_put h with rfl | hg
    · exact .inl rfl
    · exact .inr ⟨g, List.mem_of_mem_filter hg, rfl⟩

/-- No payload comes into the queue but those of the node's role (R161). -/
theorem DliStep.payload (h : DliStep s d) (hg : g ∈ d.queue) :
    s.Sends g.payload ∨ ∃ f ∈ s.dli.queue, f.payload = g.payload := by
  induction h with
  | put p hl hp =>
    rcases handInNormal_payload hg with h | h
    · exact .inl (h ▸ hp)
    · exact .inr h
  | probe p hl hk hp =>
    rcases mem_put hg with rfl | hg
    · exact .inl hp
    · obtain ⟨f, hf, hg⟩ := mem_takeOut hg
      exact .inr ⟨f, hf, (taken_some hg).1.symm⟩
  | takeOut sel =>
    obtain ⟨f, hf, hg⟩ := mem_takeOut hg
    exact .inr ⟨f, hf, (taken_some hg).1.symm⟩
  | started hn q hq x => exact .inr ⟨g, hq.subset hg, rfl⟩
  | ended f o ho hf => exact .inr ⟨g, List.mem_of_mem_filter hg, rfl⟩
  | again f o ho hf hl ha =>
    obtain ⟨k, hk, rfl⟩ := List.mem_map.1 hg
    exact .inr ⟨k, hk, by split <;> rfl⟩
  | silent hl hb n due hn => cases hg
  | probeTime | lost | counted | normal => exact .inr ⟨g, hg, rfl⟩

/-! ## The invariant of the queue -/

/-- The transmit queue in order, without what the line state asks of it (R150 to R154). -/
structure Dli.Sound (d : Dli) : Prop where
  sorted : d.queue.Pairwise QFrame.before
  ages : (d.queue.map (·.age)).Nodup
  frames : ∀ f ∈ d.queue, f.age < d.nextAge ∧ f.attempts < Config.maxAttempts ∧
    (f.leaving = true → d.carries f = true)
  waiting : d.queue.countP (fun f => !f.leaving) ≤ Config.maxQueued
  tallies : d.queue.countP (fun f => f.payload.isTally && !f.leaving) ≤ 1

/-- What the line state asks of the DLI (R160). -/
structure Dli.InLine (d : Dli) : Prop where
  normal : d.line = .normal → d.probeTime = none
  silent : d.line = .silent → d.probeTime ≠ none ∧ ∀ f ∈ d.queue, f.IsProbe

theorem lineQueue_iff : s.LineQueue ↔ s.dli.Sound ∧ s.dli.InLine :=
  ⟨fun ⟨h₁, h₂, h₃, h₄, h₅, h₆, h₇⟩ => ⟨⟨h₁, h₂, h₃, h₄, h₅⟩, ⟨h₆, h₇⟩⟩,
    fun ⟨⟨h₁, h₂, h₃, h₄, h₅⟩, ⟨h₆, h₇⟩⟩ => ⟨h₁, h₂, h₃, h₄, h₅, h₆, h₇⟩⟩

/-- Frames taken out leave the queue in order; those taken wait no more (R153, R154). -/
theorem Dli.Sound.takeOut (h : d.Sound) (sel : Payload → Bool) : (d.takeOut sel).Sound := by
  have hcount : ∀ p : QFrame → Bool, (∀ f g, g ∈ QFrame.taken d sel f → p g = true → p f = true) →
      (d.takeOut sel).queue.countP p ≤ d.queue.countP p := by
    intro p hp
    rw [takeOut_eq, List.countP_filterMap]
    refine List.countP_mono_left fun f _ hf => ?_
    cases ht : QFrame.taken d sel f with
    | none => simp [ht] at hf
    | some g => exact hp f g ht (by simpa [ht] using hf)
  have hkept : ∀ f g, g ∈ QFrame.taken d sel f → g.leaving = false → g = f := by
    intro f g hg hl
    rcases (taken_some hg).2.2.2 with ⟨_, _, h⟩ | ⟨_, h⟩
    · rw [hl] at h; cases h
    · exact h
  refine ⟨?_, ?_, fun g hg => ?_, ?_, ?_⟩
  · refine h.sorted.filterMap _ fun f g hfg f' hf' g' hg' => ?_
    obtain ⟨pf, af, _⟩ := taken_some hf'
    obtain ⟨pg, ag, _⟩ := taken_some hg'
    simpa [QFrame.before, QFrame.cls, pf, pg, af, ag] using hfg
  · have hsub : ((d.takeOut sel).queue.map (·.age)).Sublist (d.queue.map (·.age)) := by
      rw [takeOut_eq, List.map_filterMap]
      have : ∀ q : List QFrame, (q.filterMap fun f => (QFrame.taken d sel f).map (·.age)).Sublist
          (q.map (·.age)) := by
        intro q
        induction q with
        | nil => exact .slnil
        | cons f q ih =>
          rw [List.filterMap_cons, List.map_cons]
          cases ht : QFrame.taken d sel f with
          | none => exact ih.cons _
          | some g => exact (taken_some ht).2.1 ▸ ih.cons_cons _
      exact this _
    exact h.ages.sublist hsub
  · obtain ⟨f, hf, hg⟩ := mem_takeOut hg
    obtain ⟨_, ha, hn, hl⟩ := taken_some hg
    obtain ⟨h₁, h₂, h₃⟩ := h.frames f hf
    refine ⟨ha ▸ h₁, hn ▸ h₂, fun hlv => ?_⟩
    have hcarry : (d.takeOut sel).carries g = d.carries f := by
      show (match d.onLine with | some o => decide (o.age = g.age) | none => false) = _
      rw [ha]; rfl
    rw [hcarry]
    rcases hl with ⟨_, hc, _⟩ | ⟨_, rfl⟩
    · exact hc
    · exact h₃ hlv
  · refine (hcount _ fun f g hg hl => ?_).trans h.waiting
    rwa [hkept f g hg (by simpa using hl)] at hl
  · refine (hcount _ fun f g hg hl => ?_).trans h.tallies
    rw [Bool.and_eq_true] at hl
    rw [hkept f g hg (by simpa using hl.2)] at hl
    rw [Bool.and_eq_true]
    exact hl

/-- A new frame enters a queue that has room for it, beside no waiting TALLY when it is one (R150, R151). -/
theorem Dli.Sound.put (h : d.Sound) (callNumber : Byte) (p : Payload)
    (hroom : d.queue.countP (fun f => !f.leaving) < Config.maxQueued)
    (htally : p.isTally = true → d.queue.countP (fun f => f.payload.isTally && !f.leaving) = 0) :
    (d.put (d.newFrame callNumber p)).Sound := by
  have hperm := enqueue_perm (d.newFrame callNumber p) d.queue
  refine ⟨enqueue_pairwise h.sorted fun g hg => (h.frames g hg).1, ?_, fun g hg => ?_, ?_, ?_⟩
  · refine ((hperm.map (·.age)).nodup_iff).2 (List.nodup_cons.2 ⟨fun hmem => ?_, h.ages⟩)
    obtain ⟨g, hg, he⟩ := List.mem_map.1 hmem
    have hlt := (h.frames g hg).1
    have heq : g.age = d.nextAge := he
    omega
  · rcases mem_put hg with rfl | hg
    · exact ⟨Nat.lt_succ_self _, Nat.zero_lt_succ _, fun hl => by cases hl⟩
    · obtain ⟨h₁, h₂, h₃⟩ := h.frames g hg
      exact ⟨Nat.lt_succ_of_lt h₁, h₂, h₃⟩
  · show (enqueue _ _).countP _ ≤ _
    rw [hperm.countP_eq, List.countP_cons_of_pos (by rfl)]
    exact hroom
  · show (enqueue _ _).countP _ ≤ _
    rw [hperm.countP_eq, List.countP_cons]
    cases ht : p.isTally with
    | true => rw [htally ht]; split <;> omega
    | false =>
      rw [if_neg (by simp [Dli.newFrame, ht])]
      exact h.tallies

theorem holdsTally_eq_false (h : d.holdsTally = false) :
    d.queue.countP (fun f => f.payload.isTally && !f.leaving) = 0 := by
  rw [List.countP_eq_zero]
  intro f hf
  simpa using List.any_eq_false.1 h f hf

/-- Frames removed leave the queue in order when what still leaves is on the line. -/
theorem Dli.Sound.filter (h : d.Sound) (keep : QFrame → Bool) :
    ({ d with queue := d.queue.filter keep } : Dli).Sound :=
  ⟨h.sorted.filter _, h.ages.sublist (List.filter_sublist.map _),
    fun f hf => h.frames f (List.mem_of_mem_filter hf),
    (List.filter_sublist.countP_le).trans h.waiting,
    (List.filter_sublist.countP_le).trans h.tallies⟩

/-- After a taking out only the frames it did not select wait (R153, R154). -/
theorem waiting_takeOut (sel : Payload → Bool) (d : Dli) :
    (d.takeOut sel).queue.countP (fun f => !f.leaving) ≤
      d.queue.countP fun f => !(sel f.payload) && !f.leaving := by
  rw [takeOut_eq, List.countP_filterMap]
  refine List.countP_mono_left fun f _ hf => ?_
  cases ht : QFrame.taken d sel f with
  | none => simp [ht] at hf
  | some g =>
    rcases (taken_some ht).2.2.2 with ⟨_, _, hl⟩ | ⟨hs, rfl⟩
    · simp [ht, hl] at hf
    · rw [hs]
      simpa [ht] using hf

/-- Those that wait are those a selection takes and the others. -/
theorem countP_waiting (sel : Payload → Bool) (q : List QFrame) :
    q.countP (fun f => !f.leaving) =
      q.countP (fun f => sel f.payload && !f.leaving) +
        q.countP fun f => !(sel f.payload) && !f.leaving := by
  induction q with
  | nil => rfl
  | cons f q ih =>
    simp only [List.countP_cons, ih]
    cases sel f.payload <;> cases f.leaving <;> simp <;> omega

/-- No frame that was selected waits after a taking out (R153). -/
theorem waiting_selected (sel : Payload → Bool) (d : Dli) :
    (d.takeOut sel).queue.countP (fun f => sel f.payload && !f.leaving) = 0 := by
  rw [List.countP_eq_zero]
  intro g hg
  obtain ⟨f, _, hg⟩ := mem_takeOut hg
  obtain ⟨hp, _, _, hl⟩ := taken_some hg
  rcases hl with ⟨_, _, hl⟩ | ⟨hs, rfl⟩
  · simp [hl]
  · simp [hs]

/-- A frame that waits leaves room when it goes (R152). -/
theorem countP_filter_lt {p keep : QFrame → Bool} {q : List QFrame} (hg : g ∈ q) (hp : p g = true)
    (hk : keep g = false) : (q.filter keep).countP p < q.countP p := by
  have hsplit := List.countP_eq_countP_filter_add q p keep
  have hpos : 0 < (q.filter fun f => !keep f).countP p :=
    List.countP_pos_iff.2 ⟨g, List.mem_filter.2 ⟨hg, by rw [hk]; rfl⟩, hp⟩
  omega

theorem Dli.Sound.handInNormal (h : d.Sound) (callNumber : Byte) (p : Payload) :
    (d.handInNormal callNumber p).1.Sound := by
  have hnone : (p.isTally && d.holdsTally) = false → p.isTally = true →
      d.queue.countP (fun f => f.payload.isTally && !f.leaving) = 0 := fun hp ht =>
    holdsTally_eq_false (by rwa [ht, Bool.true_and] at hp)
  rcases handInNormal_cases callNumber p d with
    ⟨hp, hh, he⟩ | ⟨hp, hlen, he⟩ | ⟨_, _, he⟩ | ⟨hp, _, victim, hv, _, he⟩ <;> rw [he]
  · refine (h.takeOut Payload.isTally).put callNumber p ?_ fun _ => waiting_selected _ d
    have hheld : 0 < d.queue.countP (fun f => f.payload.isTally && !f.leaving) := by
      obtain ⟨f, hf, ht⟩ := List.any_eq_true.1 hh
      exact List.countP_pos_iff.2 ⟨f, hf, ht⟩
    have hafter := waiting_takeOut Payload.isTally d
    have hsplit := countP_waiting Payload.isTally d.queue
    have hall := h.waiting
    omega
  · exact h.put callNumber p (Nat.lt_of_le_of_lt List.countP_le_length hlen) (hnone hp)
  · exact h
  · obtain ⟨hmem, hcarry⟩ := List.mem_filter.1 hv
    have hwait : victim.leaving = false := by
      by_contra hl
      have := (h.frames victim hmem).2.2 (by simpa using hl)
      rw [this] at hcarry
      cases hcarry
    refine (h.filter _).put callNumber p ?_ fun ht => ?_
    · exact Nat.lt_of_lt_of_le (countP_filter_lt hmem (by rw [hwait]; rfl) (by simp)) h.waiting
    · have := hnone hp ht
      rw [List.countP_eq_zero] at this ⊢
      exact fun f hf => this f (List.mem_of_mem_filter hf)

/-- With no attempt on the line no frame waits for its end. -/
theorem Dli.Sound.leaving_off (h : d.Sound) (hn : d.onLine = none) (hf : f ∈ d.queue) :
    f.leaving = false := by
  by_contra hl
  have hc := (h.frames f hf).2.2 (by simpa using hl)
  simp [Dli.carries, hn] at hc

/-- A frame that waits for the end of its attempt has the age of the attempt on the line. -/
theorem Dli.Sound.leaving_age (h : d.Sound) {o : OnLine} (ho : d.onLine = some o) (hf : f ∈ d.queue)
    (hl : f.leaving = true) : f.age = o.age := by
  have hc := (h.frames f hf).2.2 hl
  simp only [Dli.carries, ho, decide_eq_true_iff] at hc
  exact hc.symm

theorem Dli.Sound.eq_of_age (h : d.Sound) (hf : f ∈ d.queue) (hg : g ∈ d.queue)
    (ha : f.age = g.age) : f = g := List.inj_on_of_nodup_map h.ages hf hg ha

/-- A part of the queue in its order is sound when none of it waits for the end of an attempt. -/
theorem Dli.Sound.sublist (h : d.Sound) {q : List QFrame} (hq : q.Sublist d.queue)
    (hl : ∀ f ∈ q, f.leaving = false) (x : Option OnLine) :
    ({ d with queue := q, onLine := x } : Dli).Sound :=
  ⟨h.sorted.sublist hq, h.ages.sublist (hq.map _),
    fun f hf => ⟨(h.frames f (hq.subset hf)).1, (h.frames f (hq.subset hf)).2.1,
      fun hlv => by rw [hl f hf] at hlv; cases hlv⟩,
    hq.countP_le.trans h.waiting, hq.countP_le.trans h.tallies⟩

/-- The queue is sound when only its line state, failures and probe time are others. -/
theorem Dli.Sound.of_eq {e : Dli} (h : d.Sound) (hq : e.queue = d.queue) (ho : e.onLine = d.onLine)
    (ha : e.nextAge = d.nextAge) : e.Sound := by
  refine ⟨hq ▸ h.sorted, hq ▸ h.ages, fun f hf => ?_, hq ▸ h.waiting, hq ▸ h.tallies⟩
  have hc : e.carries f = d.carries f := by unfold Dli.carries; rw [ho]
  rw [ha, hc]
  exact h.frames f (hq ▸ hf)

/-- The frame of the attempt that failed has one attempt more (R157). -/
theorem Dli.Sound.again (h : d.Sound) {o : OnLine} (ho : d.onLine = some o)
    (hf : d.queue.find? (fun f => decide (f.age = o.age)) = some f) (hl : f.leaving = false)
    (ha : f.attempts + 1 < Config.maxAttempts) :
    ({ d with
        onLine := none
        queue := d.queue.map fun g =>
          if g.age = f.age then { g with attempts := g.attempts + 1 } else g } : Dli).Sound := by
  have hmem : f ∈ d.queue := List.mem_of_find?_eq_some hf
  have hage : f.age = o.age := by simpa using List.find?_some hf
  have hpay : ∀ g : QFrame,
      (if g.age = f.age then { g with attempts := g.attempts + 1 } else g).payload = g.payload := by
    intro g; split <;> rfl
  have hold : ∀ g : QFrame,
      (if g.age = f.age then { g with attempts := g.attempts + 1 } else g).age = g.age := by
    intro g; split <;> rfl
  have hleave : ∀ g : QFrame,
      (if g.age = f.age then { g with attempts := g.attempts + 1 } else g).leaving = g.leaving := by
    intro g; split <;> rfl
  refine ⟨?_, ?_, fun g hg => ?_, ?_, ?_⟩
  · rw [List.pairwise_map]
    exact h.sorted.imp fun {a b} hab => by
      simpa only [QFrame.before, QFrame.cls, hpay, hold] using hab
  · rw [List.map_map]
    exact (List.map_congr_left fun g _ => hold g) ▸ h.ages
  · obtain ⟨k, hk, rfl⟩ := List.mem_map.1 hg
    obtain ⟨hnew, hatt, _⟩ := h.frames k hk
    refine ⟨by rw [hold]; exact hnew, ?_, fun hlv => ?_⟩
    · split
      · rename_i heq
        rw [h.eq_of_age hk hmem heq]
        exact ha
      · exact hatt
    · rw [hleave] at hlv
      obtain rfl := h.eq_of_age hk hmem ((h.leaving_age ho hk hlv).trans hage.symm)
      rw [hl] at hlv
      cases hlv
  · rw [List.countP_map]
    exact (List.countP_congr fun g _ => by simp only [Function.comp_apply, hleave]).trans_le h.waiting
  · rw [List.countP_map]
    exact (List.countP_congr fun g _ => by simp only [Function.comp_apply, hpay, hleave]).trans_le
      h.tallies

theorem DliStep.sound (h : DliStep s d) (hs : s.dli.Sound) (hline : s.dli.InLine) : d.Sound := by
  induction h with
  | put p hl hp => exact hs.handInNormal _ _
  | probe p hl hk hp =>
    have hnone : (s.dli.takeOut fun q => q.isTally || q.isPortcall).queue.countP
        (fun f => !f.leaving) = 0 := by
      have hafter := waiting_takeOut (fun q => q.isTally || q.isPortcall) s.dli
      have hzero : (s.dli.queue.countP fun f =>
          !(f.payload.isTally || f.payload.isPortcall) && !f.leaving) = 0 := by
        rw [List.countP_eq_zero]
        intro f hf
        have := (hline.silent hl).2 f hf
        simp [this]
      omega
    refine (hs.takeOut _).put _ p (hnone ▸ by decide) fun _ => Nat.le_zero.1 (hnone ▸ ?_)
    exact List.countP_mono_left fun f _ hf => ((Bool.and_eq_true _ _).mp hf).2
  | probeTime hl n => exact hs.of_eq rfl rfl rfl
  | takeOut sel => exact hs.takeOut sel
  | started hn q hq x =>
    exact hs.sublist hq.sublist (fun f hf => hs.leaving_off hn (hq.subset hf)) x
  | lost o ho hf =>
    refine hs.sublist (List.Sublist.refl _) (fun f hmem => ?_) none
    by_contra hl
    have hage := hs.leaving_age ho hmem (by simpa using hl)
    exact List.find?_eq_none.1 hf f hmem (by simpa using hage)
  | ended f o ho hf =>
    refine hs.sublist List.filter_sublist (fun g hg => ?_) none
    obtain ⟨hmem, hne⟩ := List.mem_filter.1 hg
    have hage : f.age = o.age := by simpa using List.find?_some hf
    by_contra hl
    have := hs.leaving_age ho hmem (by simpa using hl)
    simp [this, hage] at hne
  | again f o ho hf hl ha => exact hs.again ho hf hl ha
  | counted n hn => exact hs.of_eq rfl rfl rfl
  | silent hl hb n due hn =>
    exact (hs.sublist (List.nil_sublist _) (fun _ h => absurd h List.not_mem_nil) none).of_eq rfl rfl
      rfl
  | normal => exact hs.of_eq rfl rfl rfl

theorem handInNormal_line (callNumber : Byte) (p : Payload) (d : Dli) :
    (d.handInNormal callNumber p).1.line = d.line ∧
      (d.handInNormal callNumber p).1.probeTime = d.probeTime ∧
      (d.handInNormal callNumber p).1.failures = d.failures := by
  rcases handInNormal_cases callNumber p d with
    ⟨_, _, he⟩ | ⟨_, _, he⟩ | ⟨_, _, he⟩ | ⟨_, _, _, _, _, he⟩ <;> rw [he] <;> exact ⟨rfl, rfl, rfl⟩

/-- With the line state and the probe time standing, the queue is in line when every payload in it is one of
the old queue or, in NORMAL, any. -/
theorem Dli.InLine.of_payload {e : Dli} (h : d.InLine) (hl : e.line = d.line)
    (ht : e.probeTime = d.probeTime)
    (hq : d.line = .silent → ∀ g ∈ e.queue, g.IsProbe ∨ ∃ f ∈ d.queue, f.payload = g.payload) :
    e.InLine := by
  refine ⟨fun hn => ht ▸ h.normal (hl ▸ hn), fun hs => ?_⟩
  rw [hl] at hs
  obtain ⟨hp, hall⟩ := h.silent hs
  refine ⟨ht ▸ hp, fun g hg => ?_⟩
  rcases hq hs g hg with hg | ⟨f, hf, he⟩
  · exact hg
  · have := hall f hf
    rw [QFrame.IsProbe] at this ⊢
    rwa [← he]

theorem DliStep.inLine (h : DliStep s d) (hline : s.dli.InLine) : d.InLine := by
  induction h with
  | put p hl hp =>
    have hkeep := handInNormal_line s.tally.callNumber p s.dli
    exact hline.of_payload hkeep.1 hkeep.2.1 fun hs => absurd (hl.symm.trans hs) (by decide)
  | probe p hl hk hp =>
    refine hline.of_payload rfl rfl fun _ g hg => ?_
    rcases mem_put hg with rfl | hg
    · exact .inl hk
    · obtain ⟨f, hf, hg⟩ := mem_takeOut hg
      exact .inr ⟨f, hf, (taken_some hg).1.symm⟩
  | probeTime hl n =>
    exact ⟨fun hn => absurd (hl.symm.trans hn) (by decide),
      fun hs => ⟨Option.some_ne_none n, (hline.silent hs).2⟩⟩
  | takeOut sel =>
    refine hline.of_payload rfl rfl fun _ g hg => ?_
    obtain ⟨f, hf, hg⟩ := mem_takeOut hg
    exact .inr ⟨f, hf, (taken_some hg).1.symm⟩
  | started hn q hq x =>
    exact hline.of_payload rfl rfl fun _ g hg => .inr ⟨g, hq.subset hg, rfl⟩
  | lost o ho hf => exact hline.of_payload rfl rfl fun _ g hg => .inr ⟨g, hg, rfl⟩
  | ended f o ho hf =>
    exact hline.of_payload rfl rfl fun _ g hg => .inr ⟨g, List.mem_of_mem_filter hg, rfl⟩
  | again f o ho hf hl ha =>
    refine hline.of_payload rfl rfl fun _ g hg => ?_
    obtain ⟨k, hk, rfl⟩ := List.mem_map.1 hg
    exact .inr ⟨k, hk, by split <;> rfl⟩
  | counted n hn => exact hline.of_payload rfl rfl fun _ g hg => .inr ⟨g, hg, rfl⟩
  | silent hl hb n due hn =>
    exact ⟨fun hn => (nomatch hn), fun _ =>
      ⟨Option.some_ne_none due, fun _ hf => absurd hf List.not_mem_nil⟩⟩
  | normal => exact ⟨fun _ => rfl, fun hs => (nomatch hs)⟩

theorem initial_sound : Dli.initial.Sound :=
  ⟨.nil, List.nodup_nil, fun _ h => absurd h List.not_mem_nil, Nat.zero_le _, Nat.zero_le _⟩

theorem State.booted_dli (b : Bool) (g : Fin 4) (s : State) : (s.booted b g).dli = Dli.initial := by
  rcases booted_cases b g s with ⟨_, h⟩ | ⟨k, _, _, ⟨_, _, h⟩ | ⟨_, h⟩⟩ <;> rw [h] <;> rfl

theorem Micro.lineQueue (h : Micro c u v) (hu : u.LineQueue) : v.LineQueue := by
  induction h with
  | dli d hd =>
    obtain ⟨hs, hl⟩ := lineQueue_iff.1 hu
    exact lineQueue_iff.2 ⟨hd.sound hs hl, hd.inLine hl⟩
  | started b g hc hd =>
    rw [lineQueue_iff, State.booted_dli]
    exact ⟨initial_sound, fun _ => rfl, fun hs => (nomatch hs)⟩
  | settled =>
    obtain ⟨e, h, he⟩ := u.settleRestart_shape
    rw [he]; exact hu
  | completed part =>
    obtain ⟨r, hr⟩ := u.completeWrite_shape part
    rw [hr]; exact hu
  | _ => exact hu

/-! ## A frame handed in, written out (R151 to R153) -/

/-- The frame evicted at a full queue is the last of the others (R152). -/
theorem others_getLast (hq : d.queue.Pairwise QFrame.before) (hg : g ∈ d.others)
    (hlast : ∀ k ∈ d.others, k = g ∨ k.before g) : d.others.getLast? = some g := by
  have hsorted : d.others.Pairwise QFrame.before := hq.filter _
  obtain ⟨x, hx⟩ : ∃ x, d.others.getLast? = some x :=
    Option.isSome_iff_exists.1 (List.getLast?_isSome.2 (List.ne_nil_of_mem hg))
  obtain ⟨pre, hpre⟩ := List.getLast?_eq_some_iff.1 hx
  rw [hx]
  by_contra hne
  have hne : x ≠ g := fun h => hne (congrArg some h)
  have hxg := (hlast x (List.mem_of_getLast? hx)).resolve_left hne
  have hgx : g.before x := by
    rw [hpre] at hsorted hg
    refine (List.pairwise_append.1 hsorted).2.2 g ?_ x (List.mem_singleton.2 rfl)
    exact (List.mem_append.1 hg).resolve_right fun h => hne (List.mem_singleton.1 h).symm
  exact not_before hxg hgx

theorem handInNormal_full {callNumber : Byte} {p : Payload}
    (hr : (p.isTally && d.holdsTally) = false) (hlen : 8 ≤ d.queue.length) :
    d.handInNormal callNumber p = d.handInFull (d.newFrame callNumber p) := by
  unfold Dli.handInNormal
  dsimp only
  rw [if_neg (by rw [hr]; decide), if_neg (Nat.not_lt.2 hlen)]

/-- Settles O10: the invariant by the small steps of the Deck Line Interface, the frame handed in by the ways
of `Dli.handInNormal`. -/
theorem lineQueueKept : Obligations.LineQueueKept := by
  refine ⟨fun _ _ h => step_keeps_of_micro (fun _ _ => id) (fun _ _ _ => id)
    (fun _ _ _ => Micro.lineQueue) h, fun d cn p q => ⟨fun hr => ?_, fun hr hlen => ?_,
    fun hr hlen hq => ⟨fun hlow => ?_, fun g hg hcls hlast => ?_⟩,
    fun hq hnew => ⟨enqueue_pairwise hq hnew, enqueue_perm _ q⟩⟩⟩
  · exact if_pos hr
  · exact (if_neg (Bool.eq_false_iff.1 hr)).trans (if_pos hlen)
  · rw [handInNormal_full hr hlen]
    unfold Dli.handInFull
    split
    · rfl
    · rename_i victim hv
      exact if_pos (hlow victim (List.mem_of_getLast? hv))
  · rw [handInNormal_full hr hlen]
    unfold Dli.handInFull
    rw [others_getLast hq hg hlast]
    exact if_neg (Nat.not_lt.2 hcls)

end Sys2Proof.Machine
end

section
/-! PROOFS. The two roles kept apart, the queue of a ramp, the frame of every command, and what a WITHDRAWN
bay keeps. -/

namespace Sys2Proof.Machine

open Sys2Proof

variable {c : Instr} {s u v t : State}

/-! ## The frame of a command (00_scope 2.4) -/

theorem Outputs.Grows.trans {o p q : Outputs} (h : o.Grows p) (k : p.Grows q) : o.Grows q :=
  ⟨h.deck.trans k.deck, h.gate.trans k.gate, h.panel.trans k.panel, h.acks.trans k.acks,
    h.surveys.trans k.surveys⟩

/-- What a command leaves of the state it found, whatever else it does. -/
structure CommandFrame (c : Instr) (s t : State) : Prop where
  pending : t.pending = s.pending
  now : s.now ≤ t.now
  out : s.out.Grows t.out
  deck : t.out.deck = s.out.deck ∨ ∃ rivals, c = .transmitStart rivals
  store : (∀ k, c ≠ .configurationWrite k) → t.store = s.store
  conf : (∀ a g, c ≠ .start a g) → t.conf = s.conf

theorem CommandFrame.refl (c : Instr) (s : State) : CommandFrame c s s :=
  ⟨rfl, Nat.le_refl _, .refl _, .inl rfl, fun _ => rfl, fun _ => rfl⟩

theorem CommandFrame.trans (h : CommandFrame c s u) (k : CommandFrame c u v) : CommandFrame c s v :=
  ⟨k.pending.trans h.pending, h.now.trans k.now, h.out.trans k.out,
    h.deck.elim (fun h => k.deck.imp_left fun k => k.trans h) .inr,
    fun hc => (k.store hc).trans (h.store hc), fun hc => (k.conf hc).trans (h.conf hc)⟩

/-- A start leaves the queue, the clock, what is put out and the store. -/
theorem State.booted_frame (b : Bool) (g : Fin 4) (s : State) :
    (s.booted b g).pending = s.pending ∧ (s.booted b g).now = s.now ∧ (s.booted b g).out = s.out ∧
      (s.booted b g).store = s.store := by
  rcases booted_cases b g s with ⟨_, h⟩ | ⟨k, _, _, ⟨_, _, h⟩ | ⟨_, h⟩⟩ <;> rw [h] <;>
    exact ⟨rfl, rfl, rfl, rfl⟩

theorem Micro.frames (h : Micro c u v) : CommandFrame c u v := by
  have same := CommandFrame.refl c u
  induction h with
  | clock n hn => exact { same with now := hn }
  | stored k hc => exact { same with store := fun h => absurd hc (h k) }
  | started b g hc hd =>
    obtain ⟨hp, hn, ho, hs⟩ := u.booted_frame b g
    exact ⟨hp, hn.ge, ho ▸ .refl _, .inl (congrArg Outputs.deck ho), fun _ => hs,
      fun h => absurd hc (h b g)⟩
  | out o hg hd => exact { same with out := hg, deck := hd }
  | settled =>
    obtain ⟨e, h, he⟩ := u.settleRestart_shape
    rw [he]; exact { same with }
  | completed part =>
    obtain ⟨r, hr⟩ := u.completeWrite_shape part
    rw [hr]; exact { same with }
  | _ => exact { same with }

theorem Steps.frames (h : Steps c s t) : CommandFrame c s t :=
  Steps.keeps (Q := CommandFrame c s) (fun _ _ hm hs => hs.trans hm.frames) h (.refl c s)

theorem State.written_frames (c : Instr) (s : State) : CommandFrame c s s.written := by
  obtain ⟨r, hr⟩ := s.written_eq
  rw [hr]
  exact { CommandFrame.refl c s with }

theorem exec_frames (h : exec c s = .next t) : CommandFrame c s t := by
  obtain ⟨u, hu, _, he⟩ := exec_steps c s
  obtain rfl : u.written = t := Host.Outcome.next.inj (he.symm.trans h)
  have hclear : CommandFrame c s (s.setHanded HandedOn.clear) := { CommandFrame.refl c s with }
  exact (hclear.trans (Steps.frames hu)).trans (u.written_frames c)

/-- Settles O2: no command faults or is refused, and its frame is that of its small steps. -/
theorem everyCommandCompletes : Obligations.EveryCommandCompletes := by
  intro s c
  obtain ⟨u, _, _, he⟩ := exec_steps c s
  have h := exec_frames he
  exact ⟨_, he, h.pending, rfl, h.now, h.out.deck, h.out.gate, h.out.panel, h.out.acks, h.out.surveys,
    h.store, h.conf⟩

/-! ## OFFERs on the line (R90, R154) -/

/-- An OFFER that reaches the head of the queue has its reservation (R154). -/
theorem dropDeadOffers_head {held : List RoundId} {q rest : List QFrame} {f : QFrame} {p : OfferPayload}
    (h : dropDeadOffers held q = f :: rest) (hp : f.payload = .offer p) : p.round ∈ held := by
  induction q with
  | nil => cases h
  | cons g q ih =>
    unfold dropDeadOffers at h
    split at h
    · rename_i x hx
      split at h
      · rename_i hheld
        obtain ⟨rfl, _⟩ := List.cons.inj h
        obtain rfl := Payload.offer.inj (hx.symm.trans hp)
        exact List.contains_iff_mem.1 hheld
      · exact ih h
    all_goals
      rename_i hx
      obtain ⟨rfl, _⟩ := List.cons.inj h
      exact absurd (hx.symm.trans hp) (by simp)

/-- What an attempt started puts on the line: a frame, an OFFER only with its reservation (R154, R155). -/
theorem startAttempt_deck (rivals : List Rival) (s : State) :
    (s.startAttempt rivals).out.deck = s.out.deck ∨
    ∃ f : Frame, (s.startAttempt rivals).out.deck = s.out.deck ++ [f] ∧
      ∀ p, f.payload = .offer p → ∃ r ∈ s.table.reservations, r.round = p.round := by
  unfold State.startAttempt
  split
  · exact .inl rfl
  · dsimp only
    split
    · exact .inl rfl
    · rename_i f rest hq
      split
      · exact .inl rfl
      · refine .inr ⟨_, rfl, fun p hp => ?_⟩
        exact List.mem_map.1 (dropDeadOffers_head hq hp)

theorem append_singleton_ne {α : Type} (l : List α) (x : α) : l ++ [x] ≠ l := fun h => by
  simpa using congrArg List.length h

/-- Settles O15: only TRANSMIT_START puts a frame on the line, and it takes no dead OFFER from the queue. -/
theorem noOfferWithoutReservation : Obligations.NoOfferWithoutReservation := by
  intro s t c f p h hdeck hp
  rcases (exec_frames h).deck with hsame | ⟨rivals, rfl⟩
  · exact absurd (hdeck.symm.trans hsame) (append_singleton_ne _ _)
  · obtain ⟨w, hw⟩ : ∃ w, w = (if (s.setHanded HandedOn.clear).Configured then
      (s.setHanded HandedOn.clear).startAttempt rivals else s.setHanded HandedOn.clear) := ⟨_, rfl⟩
    have hfinish : t = w.finish := by
      rw [hw]; exact (Host.Outcome.next.inj h).symm
    have hrest : w.finish.out.deck = w.out.deck := by
      rw [finish_eq]
      have hsteps : Steps .ack w _ := (((settleDrops_steps.trans lookIfAsked_steps).trans
        settleDrops_steps).tail (.settled _)).trans tallyIfAsked_steps
      have hk := (Steps.frames hsteps).trans (State.written_frames .ack _)
      exact hk.deck.resolve_right fun ⟨_, hc⟩ => nomatch hc
    rw [hfinish, hrest, hw] at hdeck
    split at hdeck
    · rcases startAttempt_deck rivals (s.setHanded HandedOn.clear) with hd | ⟨g, hd, hg⟩
      · exact absurd (hdeck.symm.trans hd) (append_singleton_ne _ _)
      · obtain rfl : g = f := List.singleton_inj.1 (List.append_cancel_left (hd.symm.trans hdeck))
        exact hg p hp
    · exact absurd hdeck.symm (append_singleton_ne _ _)

end Sys2Proof.Machine
end

section
/-! PROOFS. The two roles kept apart (00_scope 2.3, R161), and what a WITHDRAWN bay keeps (R118, R176). -/

namespace Sys2Proof.Machine

open Sys2Proof

variable {c : Instr} {s u v t : State}

/-! ## The two roles -/

/-- With no evaluation in flight a restart finds nothing to do (R72). -/
theorem settleRestart_eval (h : s.eval.inFlight = none) : s.settleRestart.eval = s.eval := by
  rcases s.settleRestart_cases with ⟨_, he⟩ | ⟨_, he⟩ <;> rw [he]
  unfold State.restartEvaluation
  rw [h]
  rfl

/-- An empty table stays empty: a ramp has no vehicles. -/
theorem VehicleStep.empty {y : TallyUnit} {k : LaneTable} {h : HandedOn} (hv : VehicleStep s y k h)
    (hr : s.conf.role = .ramp) (he : s.table = LaneTable.empty) :
    k = LaneTable.empty ∧ y.peers = s.tally.peers := by
  have notBay : s.conf.role ≠ .bay := by rw [hr]; decide
  have noLane : ∀ l, l ∉ s.table.lanes := fun l hl => by rw [he] at hl; cases hl
  have noEntry : ∀ e, e ∉ s.table.inbound := fun e hm => by rw [he] at hm; cases hm
  induction hv with
  | relabelled t hb ht => exact absurd hb notBay
  | ranked l rs hb => exact absurd hb notBay
  | released f hf => exact ⟨by rw [he]; rfl, rfl⟩
  | reserved v x hb => exact absurd hb notBay
  | converted r due hm => rw [he] at hm; cases hm
  | unexpected l length hl => exact absurd hl (noLane l)
  | matched l e m due hl => exact absurd hl (noLane l)
  | left l r hl => exact absurd hl (noLane l)
  | missing e hm => exact absurd hm (noEntry e)

theorem TallyStep.peers {y : TallyUnit} (h : TallyStep s y) (hr : s.conf.role = .ramp)
    (hp : s.tally.peers = []) : y.peers = [] := by
  induction h with
  | peer hb => rw [hr] at hb; cases hb
  | marked source => simp [hp]
  | _ => exact hp

/-- At a bay no round opens and no vehicle waits: it has no arrivals. -/
theorem RoundsStep.idle {rc : RoundController} (h : RoundsStep s rc) (hb : s.conf.role = .bay)
    (ho : s.rounds.openRound = none) (hw : s.rounds.waiting = []) (hd : s.rounds.dispatched = [])
    (ha : s.rounds.heldAdvance = false) :
    rc.openRound = none ∧ rc.waiting = [] ∧ rc.dispatched = [] ∧ rc.heldAdvance = false := by
  have notRamp : s.conf.role ≠ .ramp := by rw [hb]; decide
  have notCalled : ∀ w, s.rounds.waiting.find? (·.called) ≠ some w := fun w hf => by
    rw [hw] at hf; cases hf
  have notOpen : ∀ o, s.rounds.openRound ≠ some o := fun o hf => by rw [ho] at hf; cases hf
  induction h with
  | gradient g => exact ⟨ho, hw, hd, ha⟩
  | advance b hr => exact absurd hr notRamp
  | arrived a hr => exact absurd hr notRamp
  | opened o _ hm => exact absurd hm.1.2 notRamp
  | offered o source k p hf => exact absurd hf (notOpen o)
  | window o hf => exact absurd hf (notOpen o)
  | closed => exact ⟨rfl, hw, hd, ha⟩
  | awarded w e hf => exact absurd hf (notCalled w)
  | recalled delay => exact ⟨rfl, by rw [hw]; rfl, hd, ha⟩
  | shutOut w hf => exact absurd hf (notCalled w)
  | answered f => exact ⟨ho, hw, by rw [hd]; rfl, ha⟩
  | returned f d hf => rw [hd] at hf; cases hf
  | abandoned o hf => exact absurd hf (notOpen o)

theorem Micro.roleApart (h : Micro c u v) (hu : u.RoleApart) : v.RoleApart := by
  have atBay : ∀ {w : State}, w.conf.role = u.conf.role → u.conf.role = .bay → w.conf.role ≠ .ramp :=
    fun hw hb hr => by rw [hw, hb] at hr; cases hr
  have atRamp : u.conf.role = .ramp → u.conf.role ≠ .bay := fun hr => by rw [hr]; decide
  obtain ⟨hbay, hramp⟩ := hu
  induction h with
  | started b g hc hd =>
    rcases booted_cases b g u with ⟨_, h⟩ | ⟨k, _, _, ⟨hk, _, h⟩ | ⟨hk, h⟩⟩ <;> rw [h]
    · exact ⟨fun _ => ⟨rfl, rfl, rfl, rfl, fun _ hf => absurd hf List.not_mem_nil⟩,
        fun _ => ⟨rfl, rfl, rfl, rfl, fun _ hf => absurd hf List.not_mem_nil⟩⟩
    · exact ⟨fun _ => ⟨rfl, rfl, rfl, rfl, fun _ hf => absurd hf List.not_mem_nil⟩,
        fun hr => absurd (hk.symm.trans hr) (by decide)⟩
    · exact ⟨fun hb => absurd (hk.symm.trans hb) (by decide),
        fun _ => ⟨rfl, rfl, rfl, rfl, fun _ hf => absurd hf List.not_mem_nil⟩⟩
  | sensor p hb hw => exact ⟨hbay, fun hr => absurd hr (atBay rfl hb)⟩
  | tally y hy =>
    exact ⟨hbay, fun hr => by
      obtain ⟨ht, he, hs, hp, hq⟩ := hramp hr
      exact ⟨ht, he, hs, hy.peers hr hp, hq⟩⟩
  | dli d hd =>
    refine ⟨fun hb => ?_, fun hr => ?_⟩
    · obtain ⟨ho, hw, hds, ha, hq⟩ := hbay hb
      refine ⟨ho, hw, hds, ha, fun f hf => ?_⟩
      rcases hd.payload hf with hp | ⟨k, hk, he⟩
      · rw [hp]; exact decide_eq_true hb
      · rw [← he]; exact hq k hk
    · obtain ⟨ht, he, hs, hp, hq⟩ := hramp hr
      refine ⟨ht, he, hs, hp, fun f hf => ?_⟩
      rcases hd.payload hf with hp | ⟨k, hk, he⟩
      · rw [hp]; exact decide_eq_false (atRamp hr)
      · rw [← he]; exact hq k hk
  | rounds rc hrc =>
    refine ⟨fun hb => ?_, hramp⟩
    obtain ⟨ho, hw, hds, ha, hq⟩ := hbay hb
    obtain ⟨ho', hw', hds', ha'⟩ := hrc.idle hb ho hw hds ha
    exact ⟨ho', hw', hds', ha', hq⟩
  | eval e hb he => exact ⟨hbay, fun hr => absurd hr (atBay rfl hb)⟩
  | taken x rest hb hq hp => exact ⟨hbay, fun hr => absurd hr (atBay rfl hb)⟩
  | settled =>
    have hframe := u.settleRestart_frame
    have hconf : u.settleRestart.conf = u.conf := (congrArg State.conf hframe :)
    have hdli : u.settleRestart.dli = u.dli := (congrArg State.dli hframe :)
    refine ⟨fun hb => ?_, fun hr => ?_⟩
    · have hrounds : u.settleRestart.rounds = u.rounds := (congrArg State.rounds hframe :)
      rw [hrounds, hdli]
      exact hbay (hconf ▸ hb)
    · obtain ⟨ht, he, hs, hp, hq⟩ := hramp (hconf ▸ hr)
      refine ⟨(congrArg State.table hframe :).trans ht, ?_, (congrArg State.sensor hframe :).trans hs,
        (congrArg (fun x => x.tally.peers) hframe :).trans hp, hdli ▸ hq⟩
      rw [settleRestart_eval (by rw [he]; rfl), he]
  | completed part =>
    obtain ⟨r, hr⟩ := u.completeWrite_shape part
    rw [hr]; exact ⟨hbay, hramp⟩
  | vehicles y k h hv =>
    refine ⟨hbay, fun hr => ?_⟩
    obtain ⟨ht, he, hs, hp, hq⟩ := hramp hr
    obtain ⟨hk, hy⟩ := hv.empty hr ht
    exact ⟨hk, he, hs, hy.trans hp, hq⟩
  | _ => exact ⟨hbay, hramp⟩

/-- Settles O13. -/
theorem rolesKeptApart : Obligations.RolesKeptApart := fun _ _ h =>
  step_keeps_of_micro (fun _ _ => id) (fun _ _ _ => id) (fun _ _ _ => Micro.roleApart) h

/-! ## A WITHDRAWN bay (R118, R176) -/

theorem forall₂_trans {α : Type} {R : α → α → Prop} (hR : ∀ a b c, R a b → R b c → R a c)
    {l₁ l₂ l₃ : List α} (h : List.Forall₂ R l₁ l₂) (k : List.Forall₂ R l₂ l₃) :
    List.Forall₂ R l₁ l₃ := by
  induction h generalizing l₃ with
  | nil => exact k
  | cons hab _ ih =>
    cases k with
    | cons hbc htail => exact .cons (hR _ _ _ hab hbc) (ih htail)

theorem Record.Same.trans {p q r : Record} (h : p.Same q) (k : q.Same r) : p.Same r :=
  ⟨k.booking.trans h.booking, k.length.trans h.length, k.weight.trans h.weight, k.front.trans h.front,
    k.granted.trans h.granted, k.round.trans h.round, fun hp => k.rank (h.rank hp)⟩

theorem Lane.Same.trans {j k l : Lane} (h : j.Same k) (i : k.Same l) : j.Same l :=
  ⟨i.number.trans h.number, i.conf.trans h.conf, i.used.trans h.used, i.sockets.trans h.sockets,
    forall₂_trans (R := Record.Same) (fun _ _ _ => Record.Same.trans) h.placed i.placed⟩

theorem Arrival.Same.trans {a b d : Arrival} (h : a.Same b) (k : b.Same d) : a.Same d :=
  ⟨k.booking.trans h.booking, k.length.trans h.length, k.weight.trans h.weight, k.rank.trans h.rank⟩

theorem Inbound.Same.trans {a b d : Inbound} (h : a.Same b) (k : b.Same d) : a.Same d :=
  ⟨k.round.trans h.round, k.lane.trans h.lane, k.front.trans h.front, k.centre.trans h.centre,
    h.arrival.trans k.arrival⟩

/-- What a WITHDRAWN bay keeps of `s` without a start (R118, R176). -/
structure State.Frozen (s t : State) : Prop where
  role : t.conf.role = .bay
  node : t.node = .withdrawn
  ownT : t.tally.ownT = s.tally.ownT
  ownL : t.tally.ownL = s.tally.ownL
  congested : t.eval.congested = s.eval.congested
  lanes : List.Forall₂ Lane.Same s.table.lanes t.table.lanes
  inbound : List.Forall₂ Inbound.Same s.table.inbound t.table.inbound
  reservations : t.table.reservations = []
  empty : t.eval.Empty

theorem EvalStep.frozen {e : Evaluator} (h : EvalStep u e) (hn : u.node = .withdrawn)
    (hr : u.table.reservations = []) (he : u.eval.Empty) :
    e.Empty ∧ e.congested = u.eval.congested := by
  obtain ⟨hf, hq⟩ := he
  induction h with
  | restarted => exact ⟨⟨by rw [hf]; rfl, hq⟩, rfl⟩
  | idled => exact ⟨⟨rfl, rfl⟩, rfl⟩
  | known rr => exact ⟨⟨hf, hq⟩, rfl⟩
  | closed f => exact ⟨⟨hf, by rw [hq]; rfl⟩, rfl⟩
  | dropped n => exact ⟨⟨hf, hq⟩, rfl⟩
  | queued x hne => exact absurd hf hne
  | advanced => exact ⟨⟨by simp [Evaluator.advance, hf], by simp [Evaluator.advance, hq]⟩, rfl⟩
  | congested h => exact h.elim (absurd hn) (absurd hr)
  | eased h => exact h.elim (absurd hn) (absurd hr)

theorem TallyStep.sums {y : TallyUnit} (h : TallyStep u y) :
    y.ownT = u.tally.ownT ∧ y.ownL = u.tally.ownL := by
  induction h <;> exact ⟨rfl, rfl⟩

theorem Micro.frozen (hc : ∀ a g, c ≠ .start a g) (h : Micro c u v) (hu : s.Frozen u) : s.Frozen v := by
  have hn := hu.node
  induction h with
  | started b g hs => exact absurd hs (hc b g)
  | node n h =>
    induction h with
    | active h => rw [hn] at h; simp at h
    | recovery h => rw [hn] at h; cases h
    | withdrawn h => rw [hn] at h; cases h
  | tally y hy =>
    obtain ⟨hT, hL⟩ := hy.sums
    exact { hu with ownT := hT.trans hu.ownT, ownL := hL.trans hu.ownL }
  | eval e hb he =>
    obtain ⟨hempty, hcong⟩ := he.frozen hn hu.reservations hu.empty
    exact { hu with congested := hcong.trans hu.congested, empty := hempty }
  | taken x rest hb hq hp =>
    obtain ⟨hf, hcalls⟩ := hu.empty
    rcases hp with hp | hp | hp
    · exact absurd hf hp
    · exact absurd hcalls hp
    · exact absurd (hn.symm.trans hp.1.2.1) (by decide)
  | settled =>
    have he := settleRestart_eval hu.empty.1
    obtain ⟨w, h, hw⟩ := u.settleRestart_shape
    rw [hw] at he ⊢
    exact { hu with
      congested := (congrArg Evaluator.congested he :).trans hu.congested
      empty := (congrArg Evaluator.Empty he :) ▸ hu.empty }
  | completed part =>
    obtain ⟨r, hr⟩ := u.completeWrite_shape part
    rw [hr]; exact { hu with }
  | vehicles y k h hv =>
    induction hv with
    | relabelled _ hb ht =>
      exact { hu with
        lanes := forall₂_trans (R := Lane.Same) (fun _ _ _ => Lane.Same.trans) hu.lanes ht.lanes
        inbound := forall₂_trans (R := Inbound.Same) (fun _ _ _ => Inbound.Same.trans) hu.inbound ht.inbound
        reservations := List.forall₂_nil_left_iff.1 (hu.reservations ▸ ht.reservations) }
    | released f hr =>
      refine { hu with reservations := ?_ }
      show u.table.reservations.filter f = []
      rw [hu.reservations]; rfl
    | reserved w x hb hw => rw [hu.empty.1] at hw; cases hw
    | converted r due hm => rw [hu.reservations] at hm; cases hm
    | ranked _ _ _ _ _ hne => exact absurd hn hne
    | unexpected _ _ _ _ hne => exact absurd hn hne
    | matched _ _ _ _ _ _ _ hne => exact absurd hn hne
    | left _ _ _ _ hne => exact absurd hn hne
    | missing _ _ hne => exact absurd hn hne
  | _ => exact { hu with }

/-- Settles O16: no small step but a start leaves WITHDRAWN, and none there moves a vehicle. -/
theorem withdrawnBayStaysFrozen : Obligations.WithdrawnBayStaysFrozen := by
  intro s t c h hb hn hp hc
  have hnone := hp.1 fun hm => absurd (hn.symm.trans hm.2.1) (by decide)
  have hstart : s.Frozen (s.setHanded HandedOn.clear) :=
    ⟨hb.2, hn, rfl, rfl, rfl, List.forall₂_same.2 fun l _ => .refl l,
      List.forall₂_same.2 fun e _ => .refl e, hnone.1, hnone.2⟩
  obtain ⟨u, hu, _, he⟩ := exec_steps c s
  obtain rfl : u.written = t := Host.Outcome.next.inj (he.symm.trans h)
  have hfrozen : s.Frozen u := Steps.keeps (fun _ _ => Micro.frozen hc) hu hstart
  obtain ⟨r, hr⟩ := u.written_eq
  rw [hr]
  refine ⟨hfrozen.node, hfrozen.ownT, hfrozen.ownL, hfrozen.congested, ?_, ?_⟩
  · exact hfrozen.lanes.imp fun k l hl => ⟨hl.number, hl.used, hl.sockets,
      hl.placed.imp fun q r hr => ⟨hr.booking, hr.length, hr.weight, hr.front, hr.granted, hr.round⟩⟩
  · exact hfrozen.inbound.imp fun d e he =>
      ⟨he.round, he.lane, he.arrival.booking, he.front, he.centre⟩

end Sys2Proof.Machine
end

section
/-! PROOFS. The waiting queue, the dispatched list and the gate hold of a ramp (R81, R101 to R116). -/

namespace Sys2Proof.Machine

open Sys2Proof

variable {c : Instr} {s u v t : State}

/-! ## The gate hold (R113) -/

/-- The gate hold stands right for a count of waiting entries. -/
abbrev HoldRight (high low n : Nat) (hold : Bool) : Prop :=
  (high ≤ n → hold = true) ∧ (n ≤ low → hold = false)

theorem gate_right {high low : Nat} (h : low < high) (n : Nat) (hold : Bool) :
    HoldRight high low n (Machine.gate high low n hold) := by
  unfold Machine.gate HoldRight
  cases hold <;> simp <;> omega

/-! ## Called entries (R81, R105) -/

/-- The entry that is found comes first, and the others follow as they stood. -/
theorem perm_cons_eraseP {α : Type} {p : α → Bool} {l : List α} {a : α} (h : l.find? p = some a) :
    l.Perm (a :: l.eraseP p) := by
  induction l with
  | nil => cases h
  | cons b l ih =>
    cases hb : p b with
    | true =>
      rw [List.find?_cons_of_pos hb] at h
      obtain rfl := Option.some.inj h
      rw [List.eraseP_cons_of_pos hb]
    | false =>
      rw [List.find?_cons_of_neg (by simp [hb])] at h
      rw [List.eraseP_cons_of_neg (by simp [hb])]
      exact ((ih h).cons b).trans (.swap a b _)

theorem countP_called_of_none {ws : List WaitingEntry} (h : ws.find? (·.called) = none) :
    ws.countP (·.called) = 0 :=
  List.countP_eq_zero.2 fun w hw => List.find?_eq_none.1 h w hw

theorem countP_called_of_some {ws : List WaitingEntry} {w : WaitingEntry}
    (h : ws.find? (·.called) = some w) :
    ws.countP (·.called) = (ws.eraseP (·.called)).countP (·.called) + 1 := by
  have hw : w.called = true := List.find?_some h
  rw [(perm_cons_eraseP h).countP_eq, List.countP_cons_of_pos hw]

/-- The mark of the first callable entry (R82). -/
theorem markCalled_spec (now : Nat) (g : Fin 4) (ws : List WaitingEntry) :
    (markCalled now g ws).map (·.arrival.booking) = ws.map (·.arrival.booking) ∧
      (ws.any (WaitingEntry.callable now g) = true →
        (markCalled now g ws).countP (·.called) = ws.countP (·.called) + 1) := by
  induction ws with
  | nil => exact ⟨rfl, fun h => by cases h⟩
  | cons w ws ih =>
    unfold markCalled
    split
    · rename_i hw
      have hn : w.called = false := by
        simp only [WaitingEntry.callable, Bool.and_eq_true, Bool.not_eq_true'] at hw
        exact hw.1.2
      exact ⟨rfl, fun _ => by simp [hn]⟩
    · rename_i hw
      refine ⟨by rw [List.map_cons, ih.1, List.map_cons], fun h => ?_⟩
      rw [List.any_cons, Bool.eq_false_iff.2 hw, Bool.false_or] at h
      simp only [List.countP_cons, ih.2 h]
      omega

theorem recalled_booking (now delay : Nat) (w : WaitingEntry) :
    (w.recalled now delay).arrival.booking = w.arrival.booking ∧
      (w.recalled now delay).called = false := by
  unfold WaitingEntry.recalled
  split
  · exact ⟨rfl, rfl⟩
  · exact ⟨rfl, Bool.eq_false_iff.2 ‹_›⟩

/-- The called entry at the head, without its mark (R116). -/
theorem calledToHead_spec (ws : List WaitingEntry) :
    ((calledToHead ws).map (·.arrival.booking)).Perm (ws.map (·.arrival.booking)) ∧
      (ws.countP (·.called) ≤ 1 → (calledToHead ws).countP (·.called) = 0) := by
  unfold calledToHead
  split
  · rename_i h
    exact ⟨.refl _, fun _ => countP_called_of_none h⟩
  · rename_i w h
    refine ⟨((perm_cons_eraseP h).map (·.arrival.booking)).symm, fun hone => ?_⟩
    have hcount := countP_called_of_some h
    rw [List.countP_cons_of_neg (by simp)]
    omega

/-! ## The dispatched list (R109) -/

theorem dispatch_sublist (e : DispatchedEntry) (ds : List DispatchedEntry) :
    (dispatch e ds).Sublist (ds ++ [e]) := by
  unfold dispatch
  split
  · exact (List.tail_sublist ds).append (.refl _)
  · exact .refl _

/-- A booking held is found by R102. -/
theorem not_holdsBooking {rc : RoundController} {b : Nat}
    (h : rc.holdsBooking b = false) : b ∉ rc.bookings := by
  intro hb
  rw [RoundController.holdsBooking, Bool.or_eq_false_iff, List.any_eq_false, List.any_eq_false] at h
  rcases List.mem_append.1 hb with hb | hb
  · obtain ⟨w, hw, he⟩ := List.mem_map.1 hb
    exact h.1 w hw (by simpa using he)
  · obtain ⟨d, hd, he⟩ := List.mem_map.1 hb
    exact h.2 d hd (by simpa using he)

/-- An arrival that is not refused is of a booking not held, and there is room for it (R102). -/
theorem not_refused {rc : RoundController} {a : Arrival} (h : rc.refusal a = none) :
    rc.holdsBooking a.booking = false ∧ rc.waiting.length < Config.maxWaiting := by
  unfold RoundController.refusal at h
  split_ifs at h with h₁ h₂ h₃ h₄ h₅ h₆ h₇
  exact ⟨Bool.eq_false_iff.2 h₆, Nat.lt_of_not_le h₇⟩

/-! ## The invariant -/

/-- What the ramp's queue keeps but for its gate hold (R81, R105). -/
structure RoundController.Sound (rc : RoundController) : Prop where
  bookings : rc.bookings.Nodup
  called : rc.waiting.countP (·.called) = if rc.openRound = none then 0 else 1

theorem rampQueue_iff :
    s.RampQueue ↔ s.rounds.Sound ∧ (s.conf.role = .ramp → s.conf.holdLow < s.conf.holdHigh ∧
      HoldRight s.conf.holdHigh s.conf.holdLow s.rounds.waiting.length s.rounds.hold) :=
  ⟨fun ⟨h₁, h₂, h₃⟩ => ⟨⟨h₁, h₃⟩, h₂⟩, fun ⟨⟨h₁, h₃⟩, h₂⟩ => ⟨h₁, h₂, h₃⟩⟩

theorem RoundController.Sound.called_le {rc : RoundController} (h : rc.Sound) :
    rc.waiting.countP (·.called) ≤ 1 := by
  have := h.called
  split at this <;> omega

theorem RoundsStep.sound {rc : RoundController} (h : RoundsStep s rc) (hs : s.rounds.Sound) :
    rc.Sound := by
  induction h with
  | gradient g => exact { hs with }
  | advance b hr => exact { hs with }
  | arrived a hr ha =>
    obtain ⟨hnew, _⟩ := not_refused ha
    refine ⟨?_, ?_⟩
    · show (List.map _ (_ ++ [_]) ++ _).Nodup
      rw [List.map_append, List.append_assoc]
      refine (List.perm_middle.nodup_iff).2 (List.nodup_cons.2 ⟨?_, hs.bookings⟩)
      exact not_holdsBooking hnew
    · show (List.countP _ (_ ++ [_])) = _
      rw [List.countP_append]
      exact hs.called
  | opened o ho hm hn hw =>
    obtain ⟨hb, hc⟩ := markCalled_spec s.now s.rounds.gradient s.rounds.waiting
    refine ⟨?_, ?_⟩
    · show (List.map _ (markCalled _ _ _) ++ _).Nodup
      rw [hb]; exact hs.bookings
    · have hzero := hs.called
      rw [if_pos hm.2.2.1] at hzero
      show (markCalled _ _ _).countP _ = 1
      rw [hc hw, hzero]
  | offered o source k p ho hp =>
    refine ⟨hs.bookings, ?_⟩
    have hone := hs.called
    rw [ho] at hone
    exact hone
  | window o ho due =>
    refine ⟨hs.bookings, ?_⟩
    have hone := hs.called
    rw [ho] at hone
    exact hone
  | closed hw => exact ⟨hs.bookings, countP_called_of_none hw⟩
  | awarded w e hw he =>
    refine ⟨?_, Nat.le_zero.1 ?_⟩
    · have hperm : s.rounds.bookings.Perm
          ((s.rounds.waiting.eraseP (·.called)).map (·.arrival.booking) ++
            (s.rounds.dispatched ++ [e]).map (·.arrival.booking)) := by
        have hw' := ((perm_cons_eraseP hw).map (·.arrival.booking)).append_right
          (s.rounds.dispatched.map (·.arrival.booking))
        refine hw'.trans ?_
        rw [List.map_cons, ← he, List.map_append, List.map_singleton, ← List.append_assoc,
          List.cons_append]
        exact (List.perm_append_singleton _ _).symm
      have hsub := (List.Sublist.refl
        ((s.rounds.waiting.eraseP (·.called)).map (·.arrival.booking))).append
          ((dispatch_sublist e s.rounds.dispatched).map (·.arrival.booking))
      exact (hperm.nodup_iff.1 hs.bookings).sublist hsub
    · have := countP_called_of_some hw
      have := hs.called_le
      show (List.eraseP _ _).countP _ ≤ 0
      omega
  | recalled delay =>
    refine ⟨?_, ?_⟩
    · show (List.map _ (List.map _ _) ++ _).Nodup
      rw [List.map_map]
      have hb := List.map_congr_left (l := s.rounds.waiting)
        fun w _ => (recalled_booking s.now delay w).1
      exact hb ▸ hs.bookings
    · show (List.map _ _).countP _ = 0
      rw [List.countP_map, List.countP_eq_zero]
      intro w _
      simp [(recalled_booking s.now delay w).2]
  | shutOut w hw =>
    refine ⟨hs.bookings.sublist ((List.eraseP_sublist.map _).append (.refl _)), Nat.le_zero.1 ?_⟩
    have := countP_called_of_some hw
    have := hs.called_le
    show (List.eraseP _ _).countP _ ≤ 0
    omega
  | answered f =>
    exact ⟨hs.bookings.sublist ((List.Sublist.refl _).append (List.eraseP_sublist.map _)), hs.called⟩
  | returned f d hd hw =>
    refine ⟨?_, ?_⟩
    · have hd' := ((perm_cons_eraseP hd).map (·.arrival.booking)).append_left
        (s.rounds.waiting.map (·.arrival.booking))
      exact (hd'.trans List.perm_middle).nodup_iff.1 hs.bookings
    · show (List.countP _ (_ :: _)) = _
      rw [List.countP_cons_of_neg (by simp)]
      exact hs.called
  | abandoned o ho =>
    obtain ⟨hb, hc⟩ := calledToHead_spec s.rounds.waiting
    exact ⟨((hb.append_right _).nodup_iff).2 hs.bookings, hc hs.called_le⟩

theorem RoundsStep.holdRight {rc : RoundController} (h : RoundsStep s rc)
    (hl : s.conf.holdLow < s.conf.holdHigh)
    (hs : HoldRight s.conf.holdHigh s.conf.holdLow s.rounds.waiting.length s.rounds.hold) :
    HoldRight s.conf.holdHigh s.conf.holdLow rc.waiting.length rc.hold := by
  induction h with
  | arrived a hr ha =>
    have := gate_right hl (s.rounds.waiting.length + 1) s.rounds.hold
    simpa using this
  | opened o ho hm hn hw =>
    have hlen := congrArg List.length (markCalled_spec s.now s.rounds.gradient s.rounds.waiting).1
    rw [List.length_map, List.length_map] at hlen
    show HoldRight _ _ (markCalled _ _ _).length _
    rw [hlen]; exact hs
  | awarded w e hw he => exact gate_right hl _ _
  | recalled delay =>
    show HoldRight _ _ (List.map _ _).length _
    rw [List.length_map]; exact hs
  | shutOut w hw => exact gate_right hl _ _
  | returned f d hd hw => exact gate_right hl _ _
  | abandoned o ho =>
    have hlen := (calledToHead_spec s.rounds.waiting).1.length_eq
    rw [List.length_map, List.length_map] at hlen
    show HoldRight _ _ (calledToHead _).length _
    rw [hlen]; exact hs
  | _ => exact hs

theorem State.booted_rounds (b : Bool) (g : Fin 4) (s : State) :
    ∃ q k, (s.booted b g).rounds = { RoundController.initial with seq := q, gradient := k } := by
  rcases booted_cases b g s with ⟨_, h⟩ | ⟨k, _, _, ⟨_, _, h⟩ | ⟨_, h⟩⟩ <;> rw [h] <;>
    exact ⟨_, _, rfl⟩

/-- The configuration after a start: the one found, or one loaded. -/
theorem State.booted_conf (b : Bool) (g : Fin 4) (s : State) :
    (s.booted b g).conf = s.conf ∨ (s.booted b g).conf.InRange := by
  rcases booted_cases b g s with ⟨_, h⟩ | ⟨k, _, hload, ⟨_, _, h⟩ | ⟨_, h⟩⟩ <;> rw [h]
  · exact .inl rfl
  · exact .inr (loadConfig_inRange hload)
  · exact .inr (loadConfig_inRange hload)

theorem Conf.InRange.holdLow_lt {k : Conf} (h : k.InRange) : k.holdLow < k.holdHigh := by
  obtain ⟨_, _, _, _, ⟨_, _, _, _, _, _, _, hl⟩, _⟩ := h
  exact hl

theorem Micro.rampQueue (h : Micro c u v) (hu : u.RampQueue) : v.RampQueue := by
  induction h with
  | rounds rc hrc =>
    obtain ⟨hs, hh⟩ := rampQueue_iff.1 hu
    exact rampQueue_iff.2 ⟨hrc.sound hs, fun hr => ⟨(hh hr).1, hrc.holdRight (hh hr).1 (hh hr).2⟩⟩
  | started b g hc hd =>
    obtain ⟨_, hh⟩ := rampQueue_iff.1 hu
    obtain ⟨q, k, hr⟩ := u.booted_rounds b g
    rw [rampQueue_iff, hr]
    refine ⟨⟨List.nodup_nil, rfl⟩, fun hrole => ?_⟩
    have hl : (u.booted b g).conf.holdLow < (u.booted b g).conf.holdHigh := by
      rcases u.booted_conf b g with hk | hk
      · rw [hk] at hrole ⊢; exact (hh hrole).1
      · exact hk.holdLow_lt
    exact ⟨hl, fun h => absurd (Nat.lt_of_lt_of_le (Nat.zero_lt_of_lt hl) h) (Nat.lt_irrefl 0),
      fun _ => rfl⟩
  | settled =>
    obtain ⟨e, h, he⟩ := u.settleRestart_shape
    rw [he]; exact hu
  | completed part =>
    obtain ⟨r, hr⟩ := u.completeWrite_shape part
    rw [hr]; exact hu
  | _ => exact hu

/-- Settles O9. -/
theorem rampQueueKept : Obligations.RampQueueKept := fun _ _ h =>
  step_keeps_of_micro (fun _ _ => id) (fun _ _ _ => id) (fun _ _ _ => Micro.rampQueue) h

end Sys2Proof.Machine
end

section
/-! PROOFS. The retained copy part by part (R178, R179), the restored table (R24, R180), and what a small step
makes of a lane (R5 to R11). -/

namespace Sys2Proof.Machine

open Sys2Proof

variable {c : Instr} {s u v t : State}

/-! ## What a part of the retained copy holds -/

section
variable {α : Type} {P : α → Prop} {p : Part α} {x : α}

theorem Part.Holds.touch (h : p.Holds P) (hx : P x) : (p.touch x).Holds P := by
  rcases p.touch_cases x with ⟨_, he⟩ | ⟨w, _, he⟩ <;> rw [he]
  · exact ⟨h.1, fun y hy => Option.some.inj hy ▸ hx⟩
  · exact h

theorem Part.Holds.complete (h : p.Holds P) (hx : p.writing ≠ none → P x) : (p.complete x).Holds P := by
  rcases p.complete_cases x with ⟨_, he⟩ | ⟨w, hw, he⟩ <;> rw [he]
  · exact h
  · refine ⟨fun y hy => Option.some.inj hy ▸ h.2 w hw, fun y hy => ?_⟩
    dsimp only at hy
    split at hy
    · exact Option.some.inj hy ▸ hx (by rw [hw]; exact Option.some_ne_none w)
    · cases hy

theorem Part.Holds.broken (h : p.Holds P) : p.broken.Holds P := by
  unfold Part.broken
  split
  · exact h
  · exact ⟨fun _ hy => (nomatch hy), fun _ hy => (nomatch hy)⟩

theorem holds_blank : (Part.blank α).Holds P :=
  ⟨fun _ hy => (nomatch hy), fun _ hy => (nomatch hy)⟩

end

/-- Every lane copy, held or being written, satisfies `P`. -/
abbrev Retained.LanesHold (P : LaneCopy → Prop) (r : Retained) : Prop := ∀ p ∈ r.lanes, p.part.Holds P

theorem touchLane_holds {P : LaneCopy → Prop} {t : LaneTable} {ps : List LanePart} (n : Nat)
    (h : ∀ p ∈ ps, p.part.Holds P) (hl : ∀ l ∈ t.lanes, P l.copy) :
    ∀ p ∈ touchLane t ps n, p.part.Holds P := by
  unfold touchLane
  split
  · exact h
  · rename_i l hlane
    intro p hp
    obtain ⟨q, hq, rfl⟩ := List.mem_map.1 hp
    split
    · exact (h q hq).touch (hl l (LaneTable.lane?_some hlane).1)
    · exact h q hq

theorem foldl_touchLane_holds {P : LaneCopy → Prop} {t : LaneTable} (ns : List Nat) {ps : List LanePart}
    (h : ∀ p ∈ ps, p.part.Holds P) (hl : ∀ l ∈ t.lanes, P l.copy) :
    ∀ p ∈ ns.foldl (touchLane t) ps, p.part.Holds P := by
  induction ns generalizing ps with
  | nil => exact h
  | cons n ns ih => exact ih (touchLane_holds n h hl)

/-- The retained copy after the copy writes of an event: as it was where none are made, and otherwise the
handed parts touched (R18, R178, R179). -/
theorem State.written_retained (s : State) :
    ((s.node = .unconfigured ∨ s.retained.stopped = true) ∧ s.written.retained = s.retained) ∨
    (¬(s.node = .unconfigured ∨ s.retained.stopped = true) ∧
      s.written.retained =
        { s.retained with
          lanes := s.handed.lanes.dedup.foldl (touchLane s.table) s.retained.lanes
          inbound := if s.handed.inbound then s.retained.inbound.touch s.inboundCopy
            else s.retained.inbound
          node := if s.handed.node then s.retained.node.touch s.nodeCopy else s.retained.node }) := by
  unfold State.written State.beginCopyWrites
  split
  · exact .inl ⟨‹_›, rfl⟩
  · exact .inr ⟨‹_›, rfl⟩

theorem written_lanesHold {P : LaneCopy → Prop} (h : s.retained.LanesHold P)
    (hl : s.retained.stopped = false → ∀ l ∈ s.table.lanes, P l.copy) :
    s.written.retained.LanesHold P := by
  rcases s.written_retained with ⟨_, he⟩ | ⟨hn, he⟩ <;> rw [he]
  · exact h
  · exact foldl_touchLane_holds _ h (hl (by simpa using fun hs => hn (.inr hs)))

theorem written_inboundHolds {Q : List Inbound → Prop} (h : s.retained.inbound.Holds Q)
    (hi : Q s.inboundCopy) : s.written.retained.inbound.Holds Q := by
  rcases s.written_retained with ⟨_, he⟩ | ⟨_, he⟩ <;> rw [he]
  · exact h
  · dsimp only
    split
    · exact h.touch hi
    · exact h

theorem writing_of_lane {r : Retained} {p : LanePart} (hp : p ∈ r.lanes)
    (hw : p.part.writing ≠ none) : r.writeInFlight = true := by
  have : r.lanes.any (fun p => p.part.writing.isSome) = true :=
    List.any_eq_true.2 ⟨p, hp, Option.isSome_iff_ne_none.2 hw⟩
  rw [Retained.writeInFlight, this, Bool.true_or, Bool.true_or]

theorem completeWrite_lanesHold {P : LaneCopy → Prop} (part : CopyPart)
    (h : s.retained.LanesHold P)
    (hl : s.retained.writeInFlight = true → ∀ l ∈ s.table.lanes, P l.copy) :
    (s.completeWrite part).retained.LanesHold P := by
  cases part with
  | lane n =>
    show ∀ p ∈ completeLane s.table n s.retained.lanes, p.part.Holds P
    unfold completeLane
    split
    · exact h
    · rename_i l hlane
      intro p hp
      obtain ⟨q, hq, rfl⟩ := List.mem_map.1 hp
      split
      · exact (h q hq).complete fun hw =>
          hl (writing_of_lane hq hw) l (LaneTable.lane?_some hlane).1
      · exact h q hq
  | inbound => exact h
  | node => exact h

theorem completeWrite_inboundHolds {Q : List Inbound → Prop} (part : CopyPart)
    (h : s.retained.inbound.Holds Q) (hi : Q s.inboundCopy) :
    (s.completeWrite part).retained.inbound.Holds Q := by
  cases part with
  | lane n => exact h
  | inbound => exact h.complete fun _ => hi
  | node => exact h

theorem broken_lanesHold {P : LaneCopy → Prop} {r : Retained} (h : r.LanesHold P) :
    r.broken.LanesHold P := by
  intro p hp
  obtain ⟨q, hq, rfl⟩ := List.mem_map.1 hp
  exact (h q hq).broken

theorem emptied_lanesHold (P : LaneCopy → Prop) : Retained.emptied.LanesHold P := by
  intro p hp
  obtain ⟨n, _, rfl⟩ := List.mem_map.1 hp
  exact holds_blank

/-! ## The restored table (R24, R180) -/

theorem State.booted_retained (b : Bool) (g : Fin 4) (s : State) :
    (s.booted b g).retained = { s.retained with stopped := false } := by
  rcases booted_cases b g s with ⟨_, h⟩ | ⟨k, _, _, ⟨_, _, h⟩ | ⟨_, h⟩⟩ <;> rw [h] <;> rfl

/-- What a start makes of the Lane Table: nothing at an UNCONFIGURED node and a ramp, the restored table at a
bay. -/
theorem State.booted_table (b : Bool) (g : Fin 4) (s : State) :
    (s.booted b g).table = LaneTable.empty ∨
    ∃ k altered, loadConfig s.store = some (k, altered) ∧ (s.booted b g).conf = k ∧
      (s.booted b g).table = restoredTable s.now k s.retained := by
  rcases booted_cases b g s with ⟨_, h⟩ | ⟨k, altered, hload, ⟨_, _, h⟩ | ⟨_, h⟩⟩ <;> rw [h]
  · exact .inl rfl
  · exact .inr ⟨k, altered, hload, rfl, rfl⟩
  · exact .inl rfl

/-- A restored lane is empty, or holds the records of a sound copy (R24). -/
theorem restoreLane_cases (gap : Int) (due : Nat) (k : LaneConf) (x : Kept LaneCopy) :
    ((restoreLane gap due k x).placed = [] ∧ (restoreLane gap due k x).used = 0 ∧
      (restoreLane gap due k x).sockets = 0) ∨
    ∃ w ∈ x.content?, w.sound gap k = true ∧
      (restoreLane gap due k x).placed = w.placed.map (Record.restored due) ∧
      (restoreLane gap due k x).used = w.used ∧ (restoreLane gap due k x).sockets = w.sockets := by
  unfold restoreLane
  split
  · exact .inl ⟨rfl, rfl, rfl⟩
  · exact .inl ⟨rfl, rfl, rfl⟩
  · rename_i w
    split
    · exact .inr ⟨w, rfl, ‹_›, rfl, rfl, rfl⟩
    · exact .inl ⟨rfl, rfl, rfl⟩

theorem restoreLane_conf (gap : Int) (due : Nat) (k : LaneConf) (x : Kept LaneCopy) :
    (restoreLane gap due k x).number = k.number ∧ (restoreLane gap due k x).conf = k := by
  unfold restoreLane
  split
  · exact ⟨rfl, rfl⟩
  · exact ⟨rfl, rfl⟩
  · split <;> exact ⟨rfl, rfl⟩

theorem keptLane_content {r : Retained} {n : Nat} {w : LaneCopy}
    (h : w ∈ (r.keptLane n).content?) : ∃ p ∈ r.lanes, w ∈ p.part.kept.content? := by
  unfold Retained.keptLane at h
  split at h
  · exact ⟨_, List.mem_of_find?_eq_some ‹_›, h⟩
  · cases h

/-- A lane of the restored table is empty, or holds the records of a sound lane copy. -/
theorem restoredTable_lane {now : Nat} {k : Conf} {r : Retained} {l : Lane}
    (h : l ∈ (restoredTable now k r).lanes) :
    (l.placed = [] ∧ l.used = 0 ∧ l.sockets = 0) ∨
    ∃ p ∈ r.lanes, ∃ w ∈ p.part.kept.content?, w.sound k.gap l.conf = true ∧
      l.placed = w.placed.map (Record.restored (now + 1000 * lashLimit k.lashClass)) ∧
      l.used = w.used ∧ l.sockets = w.sockets := by
  obtain ⟨q, hq, rfl⟩ := List.mem_map.1 h
  rcases restoreLane_cases k.gap (now + 1000 * lashLimit k.lashClass) q (r.keptLane q.number) with
    he | ⟨w, hw, hs, he⟩
  · exact .inl he
  · obtain ⟨p, hp, hw⟩ := keptLane_content hw
    exact .inr ⟨p, hp, w, hw, by rw [(restoreLane_conf _ _ _ _).2]; exact hs, he⟩

theorem restoredTable_numbers (now : Nat) (k : Conf) (r : Retained) :
    (restoredTable now k r).lanes.map (·.number) = k.lanes.map (·.number) := by
  show (List.map _ _).map _ = _
  rw [List.map_map]
  exact List.map_congr_left fun q _ => (restoreLane_conf _ _ _ _).1

theorem restoredTable_distinct {now : Nat} {k : Conf} (hk : k.InRange) (r : Retained) :
    (restoredTable now k r).Distinct := by
  obtain ⟨_, _, _, ⟨_, _, _, hn, _⟩, _⟩ := hk
  unfold LaneTable.Distinct
  rw [restoredTable_numbers]
  exact hn

theorem Retained.mem_keptInbound {r : Retained} {e : Inbound} (h : e ∈ r.keptInbound) :
    ∃ es ∈ r.inbound.kept.content?, e ∈ es ∧ r.keptInbound = es := by
  unfold Retained.keptInbound at h ⊢
  split at h
  · rename_i es hes
    exact ⟨es, by rw [hes]; rfl, h, rfl⟩
  · cases h
  · cases h

theorem State.booted_distinct (b : Bool) (g : Fin 4) (s : State) : (s.booted b g).table.Distinct := by
  rcases s.booted_table b g with h | ⟨k, _, hload, _, h⟩ <;> rw [h]
  · exact List.nodup_nil
  · exact restoredTable_distinct (loadConfig_inRange hload) _

/-! ## What a small step makes of a lane -/

/-- A lane with its records in their places, or with one more at its tail, or without its tail. -/
inductive LaneStep (s : State) (k : Lane) : Lane → Prop
  | same {l : Lane} (h : k.Same l) : LaneStep s k l
  | appended (r : Record) (hp : k.placed.length < Config.maxPlaced) (hf : r.front = k.used)
      (hg : r.granted = true → k.socketFree = true)
      (hr : ∀ n ∈ r.rank, ∃ e ∈ s.table.inbound, n = e.arrival.rank) :
      LaneStep s k (k.append s.conf.gap r)
  | removed (r : Record) (hr : k.tail? = some r) : LaneStep s k (k.removeTail s.conf.gap r)

theorem LaneStep.number {k l : Lane} (h : LaneStep s k l) : l.number = k.number := by
  induction h with
  | same h => exact h.number
  | appended => rfl
  | removed => rfl

/-- A lane update touches the one lane of its number. -/
theorem updateLane_forall₂ {t : LaneTable} {R : Lane → Lane → Prop} (hd : t.Distinct) {l : Lane}
    (hl : l ∈ t.lanes) {f : Lane → Lane} (hf : R l (f l)) (hrefl : ∀ k, R k k) :
    List.Forall₂ R t.lanes (t.updateLane l.number f).lanes := by
  refine List.forall₂_map_right_iff.2 (List.forall₂_same.2 fun k hk => ?_)
  split
  · rename_i hn
    obtain rfl := eq_of_number hd hk hl hn
    exact hf
  · exact hrefl k

theorem VehicleStep.lanes {y : TallyUnit} {k : LaneTable} {h : HandedOn} (hv : VehicleStep s y k h)
    (hd : s.table.Distinct) : List.Forall₂ (LaneStep s) s.table.lanes k.lanes := by
  have hsame : ∀ l : Lane, LaneStep s l l := fun l => .same (.refl l)
  have hkeep : List.Forall₂ (LaneStep s) s.table.lanes s.table.lanes :=
    List.forall₂_same.2 fun l _ => hsame l
  induction hv with
  | relabelled t hb ht => exact ht.lanes.imp fun _ _ h => .same h
  | ranked l rs hb hl hr hn hh =>
    exact updateLane_forall₂ hd hl (.same { Lane.Same.refl l with placed := hr }) hsame
  | released f hr => exact hkeep
  | reserved w x hb hw hx hl hr => exact hkeep
  | converted r due hm hl hr hi => exact hkeep
  | unexpected l length hl hp hn r hr =>
    subst hr
    exact updateLane_forall₂ hd hl
      (.appended _ hp rfl (fun h => by cases h) fun n h => by cases h) hsame
  | matched l e m due hl he hp hn hi r hr =>
    subst hr
    refine updateLane_forall₂ hd hl (.appended _ hp rfl (fun h => ?_) fun n h => ?_) hsame
    · exact ((Bool.and_eq_true _ _).mp h).2
    · exact ⟨e, he, (Option.some.inj h).symm⟩
  | left l r hl hr hn => exact updateLane_forall₂ hd hl (.removed r hr) hsame
  | missing e he hn hi => exact hkeep

theorem VehicleStep.numbers {y : TallyUnit} {k : LaneTable} {h : HandedOn} (hv : VehicleStep s y k h)
    (hd : s.table.Distinct) : k.lanes.map (·.number) = s.table.lanes.map (·.number) := by
  have hall := hv.lanes hd
  generalize s.table.lanes = ls at hall
  generalize k.lanes = ks at hall
  induction hall with
  | nil => rfl
  | cons hl _ ih => rw [List.map_cons, List.map_cons, hl.number, ih]

theorem VehicleStep.distinct {y : TallyUnit} {k : LaneTable} {h : HandedOn} (hv : VehicleStep s y k h)
    (hd : s.table.Distinct) : k.Distinct := by
  unfold LaneTable.Distinct
  rw [hv.numbers hd]
  exact hd

/-- A lane of the new table comes from one of the old. -/
theorem VehicleStep.mem_lanes {y : TallyUnit} {k : LaneTable} {h : HandedOn} (hv : VehicleStep s y k h)
    (hd : s.table.Distinct) {l : Lane} (hl : l ∈ k.lanes) :
    ∃ j ∈ s.table.lanes, LaneStep s j l := by
  have hall := hv.lanes hd
  generalize s.table.lanes = ls at hall
  generalize k.lanes = ks at hall hl
  induction hall with
  | nil => cases hl
  | cons hj _ ih =>
    rcases List.mem_cons.1 hl with rfl | hl
    · exact ⟨_, .head _, hj⟩
    · obtain ⟨j, hj, hs⟩ := ih hl
      exact ⟨j, .tail _ hj, hs⟩

/-- An inbound entry of the new table is one of the old with another rank or timer, or a reservation
converted. -/
theorem VehicleStep.mem_inbound {y : TallyUnit} {k : LaneTable} {h : HandedOn} (hv : VehicleStep s y k h)
    {e : Inbound} (he : e ∈ k.inbound) :
    (∃ d ∈ s.table.inbound, d.Same e) ∨ ∃ r ∈ s.table.reservations, ∃ due, e = r.entry due := by
  induction hv with
  | relabelled t hb ht =>
    have hall := ht.inbound
    generalize s.table.inbound = ds at hall
    generalize t.inbound = es at hall he
    refine .inl ?_
    induction hall with
    | nil => cases he
    | cons hd _ ih =>
      rcases List.mem_cons.1 he with rfl | he
      · exact ⟨_, .head _, hd⟩
      · obtain ⟨d, hd, hs⟩ := ih he
        exact ⟨d, .tail _ hd, hs⟩
  | converted r due hm hl hr hi =>
    rcases List.mem_append.1 he with he | he
    · exact .inl ⟨e, he, .refl e⟩
    · exact .inr ⟨r, hm, due, List.mem_singleton.1 he⟩
  | matched l d m due hl hd hp hn hi r hr => exact .inl ⟨e, List.mem_of_mem_erase he, .refl e⟩
  | missing d hd hn hi => exact .inl ⟨e, List.mem_of_mem_erase he, .refl e⟩
  | ranked | released | reserved | unexpected | left => exact .inl ⟨e, he, .refl e⟩

end Sys2Proof.Machine
end

section
/-! PROOFS. Every list within its capacity, every count and rank within its range (R5, R11 to R13, R64, R81,
R101, R138, R150, R164, R176). -/

namespace Sys2Proof.Machine

open Sys2Proof

variable {c : Instr} {s u v t : State}

/-! ## The blocks one by one -/

/-- The Lane Table within its capacities (R5, R12, R13). -/
structure LaneTable.Within (t : LaneTable) : Prop where
  distinct : t.Distinct
  placed : ∀ l ∈ t.lanes, l.placed.length ≤ Config.maxPlaced
  reservations : t.reservations.length ≤ Config.maxReservations
  inbound : t.inbound.length ≤ Config.maxInbound

/-- The Call Evaluator within its capacities (R64, R68). -/
structure Evaluator.Within (e : Evaluator) : Prop where
  calls : e.callQueue.length ≤ Config.maxCalls
  dropped : e.dropped ≤ Config.maxCount

/-- The Round Controller within its capacities (R81, R84, R101). -/
structure RoundController.Within (rc : RoundController) : Prop where
  waiting : rc.waiting.length ≤ Config.maxWaiting
  dispatched : rc.dispatched.length ≤ Config.maxDispatched
  offers : ∀ o ∈ rc.openRound, o.OffersBounded

/-- The failure count within its range (R157, R159). -/
structure Dli.Within (d : Dli) : Prop where
  failures : d.failures ≤ Config.silentFailures
  normal : d.line = .normal → d.failures < Config.silentFailures

/-- The retained copy within the capacities of what it holds (R179). -/
structure Retained.Within (r : Retained) : Prop where
  lanes : r.LanesHold fun c => c.placed.length ≤ Config.maxPlaced
  inbound : r.inbound.Holds fun es => es.length ≤ Config.maxInbound

/-- Every block within its capacities. -/
structure State.Within (s : State) : Prop where
  table : s.table.Within
  eval : s.eval.Within
  withheld : s.sensor.withheld ≤ Config.maxCount
  peers : s.tally.PeersBounded
  rounds : s.rounds.Within
  conditions : s.conditions.length ≤ Config.maxConditions
  dli : s.dli.Within
  retained : s.retained.Within

theorem State.within_iff : s.WithinCapacities ↔ s.Within :=
  ⟨fun ⟨h₁, h₂, h₃, h₄, h₅, h₆, h₇, h₈, h₉, h₁₀, h₁₁, h₁₂, h₁₃, h₁₄, h₁₅, h₁₆⟩ =>
      ⟨⟨h₁, h₂, h₃, h₄⟩, ⟨h₅, h₆⟩, h₇, h₈, ⟨h₉, h₁₀, h₁₁⟩, h₁₂, ⟨h₁₃, h₁₄⟩, ⟨h₁₅, h₁₆⟩⟩,
    fun ⟨⟨h₁, h₂, h₃, h₄⟩, ⟨h₅, h₆⟩, h₇, h₈, ⟨h₉, h₁₀, h₁₁⟩, h₁₂, ⟨h₁₃, h₁₄⟩, ⟨h₁₅, h₁₆⟩⟩ =>
      ⟨h₁, h₂, h₃, h₄, h₅, h₆, h₇, h₈, h₉, h₁₀, h₁₁, h₁₂, h₁₃, h₁₄, h₁₅, h₁₆⟩⟩

/-! ## The Lane Table -/

theorem LaneStep.placed_length {k l : Lane} (h : LaneStep s k l)
    (hk : k.placed.length ≤ Config.maxPlaced) : l.placed.length ≤ Config.maxPlaced := by
  induction h with
  | same h => rw [← h.placed.length_eq]; exact hk
  | appended r hp hf hg hr =>
    show (k.placed ++ [r]).length ≤ _
    rw [List.length_append]
    exact hp
  | removed r hr =>
    show k.placed.dropLast.length ≤ _
    rw [List.length_dropLast]
    omega

theorem VehicleStep.within {y : TallyUnit} {k : LaneTable} {h : HandedOn} (hv : VehicleStep s y k h)
    (hs : s.table.Within) : k.Within := by
  obtain ⟨hd, hplaced, hres, hin⟩ := hs
  refine ⟨hv.distinct hd, fun l hl => ?_, ?_, ?_⟩
  · obtain ⟨j, hj, hstep⟩ := hv.mem_lanes hd hl
    exact hstep.placed_length (hplaced j hj)
  · induction hv with
    | relabelled _ hb ht => rw [← ht.reservations.length_eq]; exact hres
    | released f hr => exact (List.length_filter_le _ _).trans hres
    | reserved w x hb hw hx hl hr =>
      show (_ ++ [_]).length ≤ _
      rw [List.length_append]
      exact hl
    | converted r due hm hl hr hi => exact (List.erase_sublist.length_le).trans hres
    | ranked | unexpected | matched | left | missing => exact hres
  · induction hv with
    | relabelled _ hb ht => rw [← ht.inbound.length_eq]; exact hin
    | converted r due hm hl hr hi =>
      show (_ ++ [_]).length ≤ _
      rw [List.length_append]
      exact hl
    | matched => exact (List.erase_sublist.length_le).trans hin
    | missing => exact (List.erase_sublist.length_le).trans hin
    | ranked | released | reserved | unexpected | left => exact hin

theorem VehicleStep.peers {y : TallyUnit} {k : LaneTable} {h : HandedOn} (hv : VehicleStep s y k h) :
    y.peers = s.tally.peers := by
  induction hv <;> rfl

theorem restoredTable_within {now : Nat} {k : Conf} (hk : k.InRange) {r : Retained} (hr : r.Within) :
    (restoredTable now k r).Within := by
  refine ⟨restoredTable_distinct hk r, fun l hl => ?_, Nat.zero_le _, ?_⟩
  · rcases restoredTable_lane hl with ⟨he, _⟩ | ⟨p, hp, w, hw, _, he, _⟩ <;> rw [he]
    · exact Nat.zero_le _
    · rw [List.length_map]
      exact (hr.lanes p hp).1 w hw
  · show (List.map _ (List.filter _ r.keptInbound)).length ≤ _
    rw [List.length_map]
    refine (List.length_filter_le _ _).trans ?_
    cases hk : r.keptInbound with
    | nil => exact Nat.zero_le _
    | cons e es =>
      obtain ⟨ds, hds, _, he⟩ := r.mem_keptInbound (hk ▸ List.mem_cons_self : e ∈ r.keptInbound)
      rw [← hk, he]
      exact hr.inbound.1 ds hds

/-! ## The Call Evaluator and the Deck Line Interface -/

theorem EvalStep.within {e : Evaluator} (h : EvalStep s e) (hs : s.eval.Within) : e.Within := by
  obtain ⟨hc, hd⟩ := hs
  induction h with
  | restarted => exact ⟨hc, hd⟩
  | idled => exact ⟨Nat.zero_le _, hd⟩
  | known rr => exact ⟨hc, hd⟩
  | closed f => exact ⟨(List.length_filter_le _ _).trans hc, hd⟩
  | dropped n hn => exact ⟨hc, hn hd⟩
  | queued x hf hq =>
    refine ⟨?_, hd⟩
    show (_ ++ [_]).length ≤ _
    rw [List.length_append]
    exact hq
  | advanced hr =>
    refine ⟨?_, hd⟩
    show (List.map _ _).length ≤ _
    rw [List.length_map]
    exact hc
  | congested h => exact ⟨Nat.zero_le _, hd⟩
  | eased h => exact ⟨hc, hd⟩

theorem DliStep.within {d : Dli} (h : DliStep s d) (hs : s.dli.Within) : d.Within := by
  obtain ⟨hf, hn⟩ := hs
  induction h with
  | put p hl hp =>
    obtain ⟨hline, _, hfail⟩ := handInNormal_line s.tally.callNumber p s.dli
    exact ⟨hfail ▸ hf, fun h => hfail ▸ hn (hline ▸ h)⟩
  | counted n hlt => exact ⟨Nat.le_of_lt hlt, fun _ => hlt⟩
  | silent hl hb n due hle => exact ⟨hle (hn hl), fun h => (nomatch h)⟩
  | normal => exact ⟨Nat.zero_le _, fun _ => Nat.zero_lt_succ _⟩
  | probe | probeTime | takeOut | started | lost | ended | again => exact ⟨hf, hn⟩

/-! ## Numbers that stand for bays (R81, R138) -/

/-- Distinct numbers of 1..48 are at most 48. -/
theorem length_le_of_bays {ns : List Nat} (hn : ns.Nodup) (hr : ∀ n ∈ ns, 1 ≤ n ∧ n ≤ 48) :
    ns.length ≤ 48 := by
  have hsub : ns.Subperm (List.range' 1 48) :=
    List.subperm_of_subset hn fun n h => List.mem_range'_1.2 ⟨(hr n h).1, Nat.lt_succ_of_le (hr n h).2⟩
  simpa using hsub.length_le

theorem takesOffer_bay {source callNumber : Byte} {p : OfferPayload} {o : OpenRound}
    (h : s.takesOffer source callNumber p o = true) :
    (1 ≤ p.bay.toNat ∧ p.bay.toNat ≤ 48) ∧ p.bay ∉ o.offers.map (·.bay) := by
  simp only [State.takesOffer, Bool.and_eq_true, decide_eq_true_iff, Bool.not_eq_true'] at h
  obtain ⟨⟨⟨⟨⟨⟨⟨⟨_, _⟩, hlo⟩, hhi⟩, _⟩, _⟩, _⟩, _⟩, hnew⟩ := h
  refine ⟨⟨hlo, hhi⟩, fun hmem => ?_⟩
  obtain ⟨x, hx, he⟩ := List.mem_map.1 hmem
  simpa [he] using List.any_eq_false.1 hnew x hx

theorem OpenRound.OffersBounded.append {o : OpenRound} (h : o.OffersBounded) {x : Offer}
    (hx : 1 ≤ x.bay.toNat ∧ x.bay.toNat ≤ 48) (hnew : x.bay ∉ o.offers.map (·.bay)) :
    ({ o with offers := o.offers ++ [x] } : OpenRound).OffersBounded := by
  obtain ⟨hn, hr, _⟩ := h
  have hrange : ∀ y ∈ o.offers ++ [x], 1 ≤ y.bay.toNat ∧ y.bay.toNat ≤ 48 := by
    intro y hy
    rcases List.mem_append.1 hy with hy | hy
    · exact hr y hy
    · rw [List.mem_singleton.1 hy]; exact hx
  have hnodup : ((o.offers ++ [x]).map (·.bay)).Nodup := by
    rw [List.map_append, List.map_singleton]
    exact List.nodup_append.2 ⟨hn, List.nodup_singleton _, fun a ha b hb => by
      rw [List.mem_singleton.1 hb]; rintro rfl; exact hnew ha⟩
  refine ⟨hnodup, hrange, ?_⟩
  have hlen := length_le_of_bays (hnodup.map (f := BitVec.toNat) fun _ _ => BitVec.eq_of_toNat_eq)
    (by
      intro n hn
      rw [List.map_map] at hn
      obtain ⟨y, hy, rfl⟩ := List.mem_map.1 hn
      exact hrange y hy)
  simpa using hlen

theorem putPeer_mem {e f : PeerEntry} {ps : List PeerEntry} (h : f ∈ putPeer e ps) : f = e ∨ f ∈ ps := by
  induction ps with
  | nil => exact .inl (List.mem_singleton.1 h)
  | cons g ps ih =>
    unfold putPeer at h
    split at h
    · exact (List.mem_cons.1 h).imp_right fun h => .tail _ h
    · split at h
      · exact List.mem_cons.1 h
      · rcases List.mem_cons.1 h with rfl | h
        · exact .inr (.head _)
        · exact (ih h).imp_right fun h => .tail _ h

/-- The peer table stays in ascending bay number (R138). -/
theorem putPeer_sorted {e : PeerEntry} {ps : List PeerEntry}
    (h : (ps.map (·.tally.bay.toNat)).Pairwise (· < ·)) :
    ((putPeer e ps).map (·.tally.bay.toNat)).Pairwise (· < ·) := by
  rw [List.pairwise_map] at h ⊢
  induction ps with
  | nil => exact List.pairwise_singleton _ _
  | cons g ps ih =>
    obtain ⟨hg, htail⟩ := List.pairwise_cons.1 h
    unfold putPeer
    split
    · rename_i heq
      exact List.pairwise_cons.2 ⟨fun x hx => by rw [heq]; exact hg x hx, htail⟩
    · rename_i hne
      split
      · rename_i hlt
        refine List.pairwise_cons.2 ⟨fun x hx => ?_, h⟩
        rcases List.mem_cons.1 hx with rfl | hx
        · exact hlt
        · exact Nat.lt_trans hlt (hg x hx)
      · rename_i hge
        refine List.pairwise_cons.2 ⟨fun x hx => ?_, ih htail⟩
        rcases putPeer_mem hx with rfl | hx
        · exact Nat.lt_of_le_of_ne (Nat.le_of_not_lt hge) fun h => hne (BitVec.eq_of_toNat_eq h.symm)
        · exact hg x hx

theorem peers_length {ps : List PeerEntry} (h : (ps.map (·.tally.bay.toNat)).Pairwise (· < ·))
    (hr : ∀ e ∈ ps, 1 ≤ e.tally.bay.toNat ∧ e.tally.bay.toNat ≤ 48) : ps.length ≤ 48 := by
  have hlen := length_le_of_bays (h.imp fun hlt => Nat.ne_of_lt hlt) (by
    intro n hn
    obtain ⟨e, he, rfl⟩ := List.mem_map.1 hn
    exact hr e he)
  simpa using hlen

theorem TallyStep.peersBounded {y : TallyUnit} (h : TallyStep s y) (hs : s.tally.PeersBounded) :
    y.PeersBounded := by
  obtain ⟨hsorted, hrange, hlen⟩ := hs
  induction h with
  | peer hb e he =>
    have hr : ∀ f ∈ putPeer e s.tally.peers, 1 ≤ f.tally.bay.toNat ∧ f.tally.bay.toNat ≤ 48 := by
      intro f hf
      rcases putPeer_mem hf with rfl | hf
      · exact he
      · exact hrange f hf
    exact ⟨putPeer_sorted hsorted, hr, peers_length (putPeer_sorted hsorted) hr⟩
  | marked source =>
    have hbay : ∀ e : PeerEntry,
        (if e.tally.bay = source then { e with withdrawn := true } else e).tally = e.tally := by
      intro e; split <;> rfl
    refine ⟨?_, fun f hf => ?_, ?_⟩
    · show (List.map _ (List.map _ _)).Pairwise _
      rw [List.map_map]
      have hmap := List.map_congr_left (l := s.tally.peers) fun e _ =>
        congrArg (fun p : TallyPayload => p.bay.toNat) (hbay e)
      exact hmap ▸ hsorted
    · obtain ⟨e, he, rfl⟩ := List.mem_map.1 hf
      rw [hbay]
      exact hrange e he
    · show (List.map _ _).length ≤ _
      rw [List.length_map]
      exact hlen
  | built | pending | called => exact ⟨hsorted, hrange, hlen⟩

/-! ## The Round Controller -/

theorem dispatch_length {e : DispatchedEntry} {ds : List DispatchedEntry}
    (h : ds.length ≤ Config.maxDispatched) : (dispatch e ds).length ≤ Config.maxDispatched := by
  unfold dispatch
  split
  · rw [List.length_append, List.length_tail, List.length_singleton]
    have : 1 ≤ Config.maxDispatched := by decide
    omega
  · rw [List.length_append, List.length_singleton]
    omega

theorem RoundsStep.within {rc : RoundController} (h : RoundsStep s rc) (hs : s.rounds.Within) :
    rc.Within := by
  have hnone : ∀ o ∈ (none : Option OpenRound), o.OffersBounded := fun _ h => (nomatch h)
  induction h with
  | gradient g => exact { hs with }
  | advance b hr => exact { hs with }
  | arrived a hr ha =>
    refine { hs with waiting := ?_ }
    show (_ ++ [_]).length ≤ _
    rw [List.length_append]
    exact (not_refused ha).2
  | opened o ho hm hn hw =>
    have hlen := congrArg List.length (markCalled_spec s.now s.rounds.gradient s.rounds.waiting).1
    rw [List.length_map, List.length_map] at hlen
    refine ⟨hlen ▸ hs.waiting, hs.dispatched, fun x hx => ?_⟩
    obtain rfl := Option.some.inj hx
    simp [OpenRound.OffersBounded, ho]
  | offered o source k p ho hp =>
    refine { hs with offers := fun x hx => ?_ }
    obtain rfl := Option.some.inj hx
    obtain ⟨hr, hnew⟩ := takesOffer_bay hp
    exact (hs.offers o ho).append hr hnew
  | window o ho due =>
    refine { hs with offers := fun x hx => ?_ }
    obtain rfl := Option.some.inj hx
    exact hs.offers o ho
  | closed hw => exact ⟨hs.waiting, hs.dispatched, hnone⟩
  | awarded w e hw he =>
    exact ⟨(List.eraseP_sublist.length_le).trans hs.waiting, dispatch_length hs.dispatched, hnone⟩
  | recalled delay => exact ⟨(List.length_map _).le.trans hs.waiting, hs.dispatched, hnone⟩
  | shutOut w hw =>
    exact ⟨(List.eraseP_sublist.length_le).trans hs.waiting, hs.dispatched, hnone⟩
  | answered f => exact { hs with dispatched := (List.eraseP_sublist.length_le).trans hs.dispatched }
  | returned f d hd hw =>
    exact ⟨hw, (List.eraseP_sublist.length_le).trans hs.dispatched, hs.offers⟩
  | abandoned o ho =>
    have hlen := (calledToHead_spec s.rounds.waiting).1.length_eq
    rw [List.length_map, List.length_map] at hlen
    exact ⟨hlen ▸ hs.waiting, hs.dispatched, hnone⟩

/-! ## The whole -/

theorem copy_length {l : Lane} : l.copy.placed.length = l.placed.length := List.length_map _

theorem inboundCopy_length : s.inboundCopy.length = s.table.inbound.length := List.length_map _

theorem State.Within.booted (h : s.Within) (b : Bool) (g : Fin 4) : (s.booted b g).Within := by
  have htable : (s.booted b g).table.Within := by
    rcases s.booted_table b g with he | ⟨k, _, hload, _, he⟩ <;> rw [he]
    · exact ⟨List.nodup_nil, fun _ h => absurd h List.not_mem_nil, Nat.zero_le _, Nat.zero_le _⟩
    · exact restoredTable_within (loadConfig_inRange hload) h.retained
  have hinit : (s.booted b g).eval.Within ∧ (s.booted b g).sensor.withheld = 0 ∧
      (s.booted b g).tally.peers = [] ∧ (s.booted b g).conditions = [] := by
    rcases booted_cases b g s with ⟨_, he⟩ | ⟨k, _, _, ⟨_, _, he⟩ | ⟨_, he⟩⟩ <;> rw [he] <;>
      exact ⟨⟨Nat.zero_le _, Nat.zero_le _⟩, rfl, rfl, rfl⟩
  obtain ⟨heval, hsensor, hpeers, hconditions⟩ := hinit
  obtain ⟨q, k, hrounds⟩ := s.booted_rounds b g
  refine ⟨htable, heval, hsensor ▸ Nat.zero_le _, ?_, ?_, hconditions ▸ Nat.zero_le _, ?_, ?_⟩
  · unfold TallyUnit.PeersBounded
    rw [hpeers]
    exact ⟨.nil, fun _ h => absurd h List.not_mem_nil, Nat.zero_le _⟩
  · rw [hrounds]; exact ⟨Nat.zero_le _, Nat.zero_le _, fun _ h => (nomatch h)⟩
  · rw [s.booted_dli]; exact ⟨Nat.zero_le _, fun _ => Nat.zero_lt_succ _⟩
  · rw [s.booted_retained]; exact ⟨h.retained.lanes, h.retained.inbound⟩

theorem Micro.within (h : Micro c u v) (hu : u.Within) : v.Within := by
  induction h with
  | powered hc =>
    exact { hu with
      retained := ⟨broken_lanesHold hu.retained.lanes, hu.retained.inbound.broken⟩ }
  | stored k hc => exact { hu with retained := ⟨emptied_lanesHold _, holds_blank⟩ }
  | completed part hc =>
    have hlanes := completeWrite_lanesHold part hu.retained.lanes fun _ l hl => by
      rw [copy_length]; exact hu.table.placed l hl
    have hinbound := completeWrite_inboundHolds part hu.retained.inbound
      (by rw [inboundCopy_length]; exact hu.table.inbound)
    obtain ⟨r, hr⟩ := u.completeWrite_shape part
    rw [hr] at hlanes hinbound ⊢
    exact { hu with retained := ⟨hlanes, hinbound⟩ }
  | started b g hc hd => exact hu.booted b g
  | raised code lane => exact { hu with conditions := raiseCondition_length_le hu.conditions }
  | cleared code lane =>
    exact { hu with conditions := (List.eraseP_sublist.length_le).trans hu.conditions }
  | sensor p hb hw => exact { hu with withheld := hw hu.withheld }
  | tally y hy => exact { hu with peers := hy.peersBounded hu.peers }
  | dli d hd => exact { hu with dli := hd.within hu.dli }
  | rounds rc hrc => exact { hu with rounds := hrc.within hu.rounds }
  | eval e hb he => exact { hu with eval := he.within hu.eval }
  | taken x rest hb hq hp => exact { hu with eval := ⟨hq hu.eval.calls, hu.eval.dropped⟩ }
  | settled =>
    obtain ⟨e, h, he⟩ := u.settleRestart_shape
    rw [he]
    exact { hu with eval := { hu.eval with } }
  | vehicles y k h hv =>
    refine { hu with table := hv.within hu.table, peers := ?_ }
    show TallyUnit.PeersBounded y
    unfold TallyUnit.PeersBounded
    rw [hv.peers]
    exact hu.peers
  | _ => exact { hu with }

theorem State.Within.written (h : s.Within) : s.written.Within := by
  have hlanes := written_lanesHold h.retained.lanes fun _ l hl => by
    rw [copy_length]; exact h.table.placed l hl
  have hinbound := written_inboundHolds h.retained.inbound
    (by rw [inboundCopy_length]; exact h.table.inbound)
  obtain ⟨r, hr⟩ := s.written_eq
  rw [hr] at hlanes hinbound ⊢
  exact { h with retained := ⟨hlanes, hinbound⟩ }

/-! ## Ranks (R11) -/

/-- Every rank held within its range. -/
structure State.Ranked (s : State) : Prop where
  placed : ∀ l ∈ s.table.lanes, ∀ r ∈ l.placed, r.RankBound
  inbound : ∀ e ∈ s.table.inbound, e.arrival.rank ≤ 15
  reservations : ∀ r ∈ s.table.reservations, r.arrival.rank ≤ 15
  lanes : s.retained.LanesHold fun c => ∀ r ∈ c.placed, r.RankBound
  entries : s.retained.inbound.Holds fun es => ∀ e ∈ es, e.arrival.rank ≤ 15

theorem ranked_iff : s.RanksBounded ↔ s.Ranked :=
  ⟨fun ⟨h₁, h₂, h₃, h₄, h₅⟩ => ⟨h₁, h₂, h₃, h₄, h₅⟩, fun ⟨h₁, h₂, h₃, h₄, h₅⟩ => ⟨h₁, h₂, h₃, h₄, h₅⟩⟩

theorem forall₂_mem_right {α : Type} {R : α → α → Prop} {xs ys : List α} (h : List.Forall₂ R xs ys)
    {y : α} (hy : y ∈ ys) : ∃ x ∈ xs, R x y := by
  induction h with
  | nil => cases hy
  | cons hx _ ih =>
    rcases List.mem_cons.1 hy with rfl | hy
    · exact ⟨_, .head _, hx⟩
    · obtain ⟨x, hmem, hr⟩ := ih hy
      exact ⟨x, .tail _ hmem, hr⟩

/-- A lane of a table updated at a number. -/
theorem mem_updateLane {t : LaneTable} {n : Nat} {f : Lane → Lane} {l : Lane}
    (h : l ∈ (t.updateLane n f).lanes) : l ∈ t.lanes ∨ ∃ k ∈ t.lanes, k.number = n ∧ l = f k := by
  obtain ⟨k, hk, rfl⟩ := List.mem_map.1 h
  split
  · exact .inr ⟨k, hk, ‹_›, rfl⟩
  · exact .inl hk

/-- A record placed is one of the old with another rank, or has the rank of an inbound entry or none. -/
theorem VehicleStep.mem_placed {y : TallyUnit} {k : LaneTable} {h : HandedOn} (hv : VehicleStep s y k h)
    {l : Lane} (hl : l ∈ k.lanes) {r : Record} (hr : r ∈ l.placed) :
    (∃ j ∈ s.table.lanes, ∃ q ∈ j.placed, q.Same r) ∨
      ∀ n ∈ r.rank, ∃ e ∈ s.table.inbound, n = e.arrival.rank := by
  have hold : l ∈ s.table.lanes → ∃ j ∈ s.table.lanes, ∃ q ∈ j.placed, q.Same r :=
    fun hl => ⟨l, hl, r, hr, .refl r⟩
  have happended : ∀ (j : Lane) (x : Record),
      (∀ n ∈ x.rank, ∃ e ∈ s.table.inbound, n = e.arrival.rank) →
      l ∈ (s.appended j x).lanes →
      (∃ j ∈ s.table.lanes, ∃ q ∈ j.placed, q.Same r) ∨
        ∀ n ∈ r.rank, ∃ e ∈ s.table.inbound, n = e.arrival.rank := by
    intro j x hx hmem
    rcases mem_updateLane hmem with h | ⟨i, hi, _, rfl⟩
    · exact .inl (hold h)
    · rcases List.mem_append.1 hr with hr | hr
      · exact .inl ⟨i, hi, r, hr, .refl r⟩
      · rw [List.mem_singleton.1 hr]; exact .inr hx
  induction hv with
  | relabelled _ hb ht =>
    obtain ⟨j, hj, hs⟩ := forall₂_mem_right ht.lanes hl
    obtain ⟨q, hq, hs⟩ := forall₂_mem_right hs.placed hr
    exact .inl ⟨j, hj, q, hq, hs⟩
  | ranked j rs hb hj hrs hn hh =>
    rcases mem_updateLane hl with h | ⟨i, hi, _, rfl⟩
    · exact .inl (hold h)
    · obtain ⟨q, hq, hs⟩ := forall₂_mem_right hrs hr
      exact .inl ⟨j, hj, q, hq, hs⟩
  | unexpected j length hj hp hn x hx =>
    subst hx
    exact happended j _ (fun n h => by cases h) hl
  | matched j e m due hj he hp hn hi x hx =>
    subst hx
    exact happended j _ (fun n h => ⟨e, he, (Option.some.inj h).symm⟩) hl
  | left j x hj hx hn =>
    rcases mem_updateLane hl with h | ⟨i, hi, _, rfl⟩
    · exact .inl (hold h)
    · exact .inl ⟨i, hi, r, List.mem_of_mem_dropLast hr, .refl r⟩
  | released | reserved | converted | missing => exact .inl (hold hl)

theorem VehicleStep.mem_reservations {y : TallyUnit} {k : LaneTable} {h : HandedOn}
    (hv : VehicleStep s y k h) {r : Reservation} (hr : r ∈ k.reservations) :
    (∃ q ∈ s.table.reservations, q.Same r) ∨
      ∃ v ∈ s.eval.inFlight, ∃ x, chooseLane s.conf v.snapshot v.call.arrival = some x ∧
        r = v.call.reservation x s.conf.awardGrace := by
  induction hv with
  | relabelled _ hb ht => exact .inl (forall₂_mem_right ht.reservations hr)
  | released f hf => exact .inl ⟨r, List.mem_of_mem_filter hr, .refl r⟩
  | reserved v x hb hv hx hl hn =>
    rcases List.mem_append.1 hr with hr | hr
    · exact .inl ⟨r, hr, .refl r⟩
    · exact .inr ⟨v, hv, x, hx, List.mem_singleton.1 hr⟩
  | converted q due hm hl hn hi => exact .inl ⟨r, List.mem_of_mem_erase hr, .refl r⟩
  | ranked | unexpected | matched | left | missing => exact .inl ⟨r, hr, .refl r⟩

end Sys2Proof.Machine
end

section
/-! PROOFS. The choice of a lane and of an offer (R60, R85), and the ranks and capacities that follow. -/

namespace Sys2Proof.Machine

open Sys2Proof

variable {c : Instr} {s u v t : State}

/-! ## The lane chosen (R60) -/

/-- `x` stands in `xs` with a score above all before it and not below any after it. -/
abbrev FirstBest (xs : List Choice) (x : Choice) : Prop :=
  ∃ pre post, xs = pre ++ x :: post ∧ (∀ y ∈ pre, y.score < x.score) ∧ ∀ y ∈ post, y.score ≤ x.score

/-- The first best choice behind one that is at best its equal. -/
theorem FirstBest.cons {xs : List Choice} {x y : Choice} (h : FirstBest xs x) (hy : y.score < x.score) :
    FirstBest (y :: xs) x := by
  obtain ⟨pre, post, rfl, hpre, hpost⟩ := h
  refine ⟨y :: pre, post, rfl, fun z hz => ?_, hpost⟩
  rcases List.mem_cons.1 hz with rfl | hz
  · exact hy
  · exact hpre z hz

/-- The examination keeps the best lane met so far, or finds a better one. -/
theorem foldl_chooseBetter (xs : List Choice) (b : Choice) :
    (xs.foldl chooseBetter (some b) = some b ∧ ∀ y ∈ xs, y.score ≤ b.score) ∨
    ∃ x, xs.foldl chooseBetter (some b) = some x ∧ b.score < x.score ∧ FirstBest xs x := by
  induction xs generalizing b with
  | nil => exact .inl ⟨rfl, fun _ h => absurd h List.not_mem_nil⟩
  | cons y ys ih =>
    rw [List.foldl_cons]
    by_cases hy : b.score < y.score
    · rw [show chooseBetter (some b) y = some y from if_pos hy]
      refine .inr ?_
      rcases ih y with ⟨he, hall⟩ | ⟨x, he, hlt, hbest⟩
      · exact ⟨y, he, hy, [], ys, rfl, fun _ h => absurd h List.not_mem_nil, hall⟩
      · exact ⟨x, he, Int.lt_trans hy hlt, hbest.cons hlt⟩
    · rw [show chooseBetter (some b) y = some b from if_neg hy]
      rcases ih b with ⟨he, hall⟩ | ⟨x, he, hlt, hbest⟩
      · refine .inl ⟨he, fun z hz => ?_⟩
        rcases List.mem_cons.1 hz with rfl | hz
        · exact Int.not_lt.1 hy
        · exact hall z hz
      · exact .inr ⟨x, he, hlt, hbest.cons (Int.lt_of_le_of_lt (Int.not_lt.1 hy) hlt)⟩

/-- The lane chosen is the first best of the candidates, and there is one when there is a candidate. -/
theorem chooseLane_spec (k : Conf) (snap : Snapshot) (a : Arrival) :
    (candidates k snap a = [] ∧ chooseLane k snap a = none) ∨
    ∃ x, chooseLane k snap a = some x ∧ FirstBest (candidates k snap a) x := by
  unfold chooseLane
  cases h : candidates k snap a with
  | nil => exact .inl ⟨rfl, rfl⟩
  | cons y ys =>
    refine .inr ?_
    rw [List.foldl_cons]
    rcases foldl_chooseBetter ys y with ⟨he, hall⟩ | ⟨x, he, hlt, hbest⟩
    · exact ⟨y, he, [], ys, rfl, fun _ h => absurd h List.not_mem_nil, hall⟩
    · exact ⟨x, he, hbest.cons hlt⟩

theorem chooseLane_firstBest {k : Conf} {snap : Snapshot} {a : Arrival} {x : Choice}
    (h : chooseLane k snap a = some x) : FirstBest (candidates k snap a) x := by
  rcases chooseLane_spec k snap a with ⟨_, hn⟩ | ⟨y, hy, hb⟩
  · exact absurd (h.symm.trans hn) (Option.some_ne_none x)
  · exact Option.some.inj (hy.symm.trans h) ▸ hb

/-! ## The offer awarded (R85) -/

/-- `o` has a higher score than `y`, or its score from no higher a bay number (R85). -/
abbrev Offer.Best (o y : Offer) : Prop :=
  y.score < o.score ∨ (y.score = o.score ∧ o.bay.toNat ≤ y.bay.toNat)

theorem betterOffer_best (b x : Offer) :
    (betterOffer b x = b ∨ betterOffer b x = x) ∧ (betterOffer b x).Best b ∧ (betterOffer b x).Best x := by
  unfold betterOffer
  split_ifs with h₁ h₂
  · exact ⟨.inr rfl, .inl h₁, .inr ⟨rfl, Nat.le_refl _⟩⟩
  · exact ⟨.inr rfl, .inr ⟨h₂.1.symm, h₂.2.le⟩, .inr ⟨rfl, Nat.le_refl _⟩⟩
  · refine ⟨.inl rfl, .inr ⟨rfl, Nat.le_refl _⟩, ?_⟩
    exact (not_lt.1 h₁).lt_or_eq.imp_right fun he => ⟨he, not_lt.1 fun hb => h₂ ⟨he, hb⟩⟩

theorem best_trans {o p y : Offer} (h : o.Best p) (h' : p.Best y) : o.Best y := by
  rcases h with h | ⟨he, hb⟩
  · exact .inl (h'.elim h.trans' fun h' => h'.1.trans_lt h)
  · exact h'.imp (fun h' => h'.trans_eq he) fun h' => ⟨h'.1.trans he, hb.trans h'.2⟩

theorem foldl_betterOffer (xs : List Offer) (b : Offer) :
    xs.foldl betterOffer b ∈ b :: xs ∧ ∀ y ∈ b :: xs, (xs.foldl betterOffer b).Best y := by
  induction xs generalizing b with
  | nil =>
    refine ⟨.head _, fun y hy => ?_⟩
    rw [List.mem_singleton.1 hy]
    exact .inr ⟨rfl, Nat.le_refl _⟩
  | cons x xs ih =>
    obtain ⟨hone, hb, hx⟩ := betterOffer_best b x
    obtain ⟨hmem, hall⟩ := ih (betterOffer b x)
    have htop := hall (betterOffer b x) (.head _)
    rw [List.foldl_cons]
    generalize xs.foldl betterOffer (betterOffer b x) = o at hmem hall htop ⊢
    refine ⟨?_, fun y hy => ?_⟩
    · rcases List.mem_cons.1 hmem with rfl | hmem
      · rcases hone with h | h <;> rw [h]
        · exact .head _
        · exact .tail _ (.head _)
      · exact .tail _ (.tail _ hmem)
    · rcases List.mem_cons.1 hy with rfl | hy
      · exact best_trans htop hb
      · rcases List.mem_cons.1 hy with rfl | hy
        · exact best_trans htop hx
        · exact hall y (.tail _ hy)

/-- Settles O21. -/
theorem bestIsChosen : Obligations.BestIsChosen := by
  intro k snap a x os o
  refine ⟨chooseLane_firstBest, ?_, fun h => ?_, ?_⟩
  · rcases chooseLane_spec k snap a with ⟨hc, hn⟩ | ⟨y, hy, pre, post, hc, _⟩
    · exact iff_of_true hn hc
    · rw [hy, hc]
      exact iff_of_false (Option.some_ne_none y) (List.append_ne_nil_of_right_ne_nil _ (List.cons_ne_nil _ _))
  · cases os with
    | nil => cases h
    | cons b xs =>
      obtain rfl := Option.some.inj h
      exact foldl_betterOffer xs b
  · cases os with
    | nil => exact iff_of_true rfl rfl
    | cons b xs => exact iff_of_false (Option.some_ne_none _) (List.cons_ne_nil _ _)

/-! ## What a choice says of the arrival (R26, R41) -/

theorem laneVerdict_bayTests {k : Conf} {snap : Snapshot} {a : Arrival} {l : LaneSnap} {w : LaneVerdict}
    (h : laneVerdict k snap a l = some w) : bayTests k snap.stowage a = true := by
  unfold laneVerdict at h
  split at h
  · rename_i hb
    exact ((Bool.and_eq_true _ _).mp hb).1
  · cases h

/-- An arrival for which a lane is chosen passed the tests of the whole bay. -/
theorem chooseLane_bayTests {k : Conf} {snap : Snapshot} {a : Arrival} {x : Choice}
    (h : chooseLane k snap a = some x) : bayTests k snap.stowage a = true := by
  obtain ⟨pre, post, hc, _⟩ := chooseLane_firstBest h
  have hx : x ∈ candidates k snap a := by rw [hc]; exact List.mem_append_right _ (.head _)
  obtain ⟨l, _, hl⟩ := List.mem_filterMap.1 hx
  obtain ⟨w, hw, _⟩ := Option.map_eq_some_iff.1 hl
  exact laneVerdict_bayTests hw

theorem rank_of_inRange {a : Arrival} (h : a.inRange = true) : a.rank ≤ 15 := by
  simp only [Arrival.inRange, Bool.and_eq_true, decide_eq_true_iff] at h
  exact h.2

theorem chooseLane_rank {k : Conf} {snap : Snapshot} {a : Arrival} {x : Choice}
    (h : chooseLane k snap a = some x) : a.rank ≤ 15 := by
  have hb := chooseLane_bayTests h
  rw [bayTests, Bool.and_eq_true, Bool.and_eq_true] at hb
  exact rank_of_inRange hb.1.1

/-! ## Ranks through every step (R11) -/

theorem same_retained (r : Record) : r.Same r.retained := { Record.Same.refl r with }

theorem same_restored (due : Nat) (r : Record) : r.Same (r.restored due) :=
  { Record.Same.refl r with }

theorem copy_ranked {l : Lane} (h : ∀ r ∈ l.placed, r.RankBound) :
    ∀ r ∈ l.copy.placed, r.RankBound := by
  intro r hr
  obtain ⟨q, hq, rfl⟩ := List.mem_map.1 hr
  exact (same_retained q).rank (h q hq)

theorem inboundCopy_ranked (h : ∀ e ∈ s.table.inbound, e.arrival.rank ≤ 15) :
    ∀ e ∈ s.inboundCopy, e.arrival.rank ≤ 15 := by
  intro e he
  obtain ⟨d, hd, rfl⟩ := List.mem_map.1 he
  exact h d hd

theorem State.Ranked.booted (h : s.Ranked) (b : Bool) (g : Fin 4) : (s.booted b g).Ranked := by
  have hret := s.booted_retained b g
  rcases s.booted_table b g with he | ⟨k, _, hload, _, he⟩
  · exact ⟨by rw [he]; exact fun _ h => absurd h List.not_mem_nil,
      by rw [he]; exact fun _ h => absurd h List.not_mem_nil,
      by rw [he]; exact fun _ h => absurd h List.not_mem_nil, by rw [hret]; exact h.lanes,
      by rw [hret]; exact h.entries⟩
  · refine ⟨?_, ?_, by rw [he]; exact fun _ h => absurd h List.not_mem_nil, by rw [hret]; exact h.lanes,
      by rw [hret]; exact h.entries⟩
    · rw [he]
      intro l hl r hr
      rcases restoredTable_lane hl with ⟨hp, _⟩ | ⟨p, hp, w, hw, _, hq, _⟩
      · rw [hp] at hr; cases hr
      · rw [hq] at hr
        obtain ⟨q, hq, rfl⟩ := List.mem_map.1 hr
        exact (same_restored _ q).rank ((h.lanes p hp).1 w hw q hq)
    · rw [he]
      intro e hmem
      obtain ⟨d, hd, rfl⟩ := List.mem_map.1 hmem
      obtain ⟨es, hes, hin, _⟩ := s.retained.mem_keptInbound (List.mem_of_mem_filter hd)
      exact h.entries.1 es hes d hin

theorem VehicleStep.ranked_kept {y : TallyUnit} {k : LaneTable} {h : HandedOn} (hv : VehicleStep s y k h)
    (hs : s.Ranked) : (s.setVehicles y k h).Ranked := by
  refine { hs with placed := fun l hl r hr => ?_, inbound := fun e he => ?_,
                   reservations := fun r hr => ?_ }
  · rcases hv.mem_placed hl hr with ⟨j, hj, q, hq, hsame⟩ | hrank
    · exact hsame.rank (hs.placed j hj q hq)
    · intro n hn
      obtain ⟨e, he, rfl⟩ := hrank n hn
      exact hs.inbound e he
  · rcases hv.mem_inbound he with ⟨d, hd, hsame⟩ | ⟨r, hr, due, rfl⟩
    · exact hsame.arrival.rank.trans (hs.inbound d hd)
    · exact hs.reservations r hr
  · rcases hv.mem_reservations hr with ⟨q, hq, hsame⟩ | ⟨w, _, x, hx, rfl⟩
    · exact hsame.arrival.rank.trans (hs.reservations q hq)
    · exact chooseLane_rank hx

theorem Micro.ranked_kept (h : Micro c u v) (hu : u.Ranked) : v.Ranked := by
  induction h with
  | powered hc =>
    exact { hu with lanes := broken_lanesHold hu.lanes, entries := hu.entries.broken }
  | stored k hc =>
    exact { hu with lanes := emptied_lanesHold _, entries := holds_blank }
  | completed part hc =>
    have hlanes := completeWrite_lanesHold part hu.lanes fun _ l hl =>
      copy_ranked (hu.placed l hl)
    have hinbound := completeWrite_inboundHolds part hu.entries
      (inboundCopy_ranked hu.inbound)
    obtain ⟨r, hr⟩ := u.completeWrite_shape part
    rw [hr] at hlanes hinbound ⊢
    exact { hu with lanes := hlanes, entries := hinbound }
  | started b g hc hd => exact hu.booted b g
  | settled =>
    obtain ⟨e, h, he⟩ := u.settleRestart_shape
    rw [he]
    exact { hu with }
  | vehicles y k h hv => exact hv.ranked_kept hu
  | _ => exact { hu with }

theorem State.Ranked.written (h : s.Ranked) : s.written.Ranked := by
  have hlanes := written_lanesHold h.lanes fun _ l hl => copy_ranked (h.placed l hl)
  have hinbound := written_inboundHolds h.entries (inboundCopy_ranked h.inbound)
  obtain ⟨r, hr⟩ := s.written_eq
  rw [hr] at hlanes hinbound ⊢
  exact { h with lanes := hlanes, entries := hinbound }

/-- Settles O6. -/
theorem capacitiesKept : Obligations.CapacitiesKept := by
  intro s t h
  constructor <;> intro hs
  · rw [State.within_iff] at hs ⊢
    exact step_keeps (P := State.Within) (Q := State.Within) (fun _ _ h => { h with })
      (fun u h => Micro.within (c := .ack) (.clock u _ (Nat.le_succ _)) h) (fun _ h => { h with })
      (fun _ _ _ => Micro.within) (fun _ _ h => h.written) h hs
  · rw [ranked_iff] at hs ⊢
    exact step_keeps (P := State.Ranked) (Q := State.Ranked) (fun _ _ h => { h with })
      (fun u h => Micro.ranked_kept (c := .ack) (.clock u _ (Nat.le_succ _)) h) (fun _ h => { h with })
      (fun _ _ _ => Micro.ranked_kept) (fun _ _ h => h.written) h hs

end Sys2Proof.Machine
end

section
/-! PROOFS. The sums of the bay: U and the sockets of each lane, the front distances, and the own sums (R5, R9,
R10, R49, R178). -/

namespace Sys2Proof.Machine

open Sys2Proof

variable {c : Instr} {s u v t : State}

/-! ## Records of the same places -/

/-- Two lists related entry by entry map to the same list. -/
theorem forall₂_map_eq {α β : Type} {R : α → α → Prop} {f g : α → β} {xs ys : List α}
    (h : List.Forall₂ R xs ys) (hf : ∀ x y, R x y → g y = f x) : ys.map g = xs.map f := by
  induction h with
  | nil => rfl
  | cons hxy _ ih => rw [List.map_cons, List.map_cons, hf _ _ hxy, ih]

theorem extentSum_same (gap : Int) {rs qs : List Record} (h : List.Forall₂ Record.Same rs qs) :
    extentSum gap qs = extentSum gap rs := by
  induction h with
  | nil => rfl
  | cons hr _ ih =>
    rw [extentSum_cons, extentSum_cons, ih, Record.extent, Record.extent, hr.length]

/-! ## Front distances (R5) -/

theorem frontsFrom_append (gap : Int) (f : Int) (rs : List Record) (r : Record) :
    frontsFrom gap f (rs ++ [r]) = (frontsFrom gap f rs && decide (r.front = f + extentSum gap rs)) := by
  induction rs generalizing f with
  | nil => simp [frontsFrom]
  | cons q rs ih =>
    rw [List.cons_append, frontsFrom, frontsFrom, ih, extentSum_cons, Bool.and_assoc, Int.add_assoc]

theorem frontsFrom_same {gap : Int} {rs qs : List Record} (h : List.Forall₂ Record.Same rs qs)
    (f : Int) : frontsFrom gap f qs = frontsFrom gap f rs := by
  induction h generalizing f with
  | nil => rfl
  | cons hr _ ih => rw [frontsFrom, frontsFrom, ih, hr.front, Record.extent, Record.extent, hr.length]

/-! ## Lanes through a small step -/

/-- A lane whose front distances stand and whose U is their sum (R5, R9). -/
structure Lane.Stands (gap : Int) (l : Lane) : Prop where
  fronts : frontsFrom gap 0 l.placed = true
  used : l.used = extentSum gap l.placed

/-- U is the sum over the placed list, and the sockets in use are within the configured ones (R9, R10). -/
structure Lane.Summed (gap : Int) (l : Lane) : Prop where
  used : l.used = extentSum gap l.placed
  sockets : l.sockets ≤ l.conf.sockets

theorem LaneStep.used {k l : Lane} (h : LaneStep s k l) (hk : k.used = extentSum s.conf.gap k.placed) :
    l.used = extentSum s.conf.gap l.placed := by
  induction h with
  | same h => rw [h.used, extentSum_same _ h.placed, hk]
  | appended r hp hf hg hr => exact Lane.append_used r hk
  | removed r hr => exact Lane.removeTail_used hr hk

theorem LaneStep.summed {k l : Lane} (h : LaneStep s k l) (hk : k.Summed s.conf.gap) :
    l.Summed s.conf.gap := by
  refine ⟨h.used hk.used, ?_⟩
  have hs := hk.sockets
  induction h with
  | same h => rw [h.sockets, h.conf]; exact hs
  | appended r hp hf hg hr =>
    show (if r.granted then k.sockets + 1 else k.sockets) ≤ k.conf.sockets
    split
    · have := hg ‹_›
      rw [Lane.socketFree, decide_eq_true_iff] at this
      exact this
    · exact hs
  | removed r hr =>
    show (if r.granted then k.sockets - 1 else k.sockets) ≤ k.conf.sockets
    split
    · exact (Nat.sub_le _ _).trans hs
    · exact hs

theorem LaneStep.stands {k l : Lane} (h : LaneStep s k l) (hk : k.Stands s.conf.gap) :
    l.Stands s.conf.gap := by
  refine ⟨?_, h.used hk.used⟩
  induction h with
  | same h => rw [frontsFrom_same h.placed, hk.fronts]
  | appended r hp hf hg hr =>
    show frontsFrom _ 0 (k.placed ++ [r]) = true
    rw [frontsFrom_append, hk.fronts, hf, hk.used, Int.zero_add, decide_eq_true rfl]
    rfl
  | removed r hr =>
    have hfronts := hk.fronts
    rw [Lane.placed_eq_of_tail hr, frontsFrom_append, Bool.and_eq_true] at hfronts
    exact hfronts.1

theorem LaneStep.place {k l : Lane} (h : LaneStep s k l) : (l.number, l.conf) = (k.number, k.conf) := by
  induction h with
  | same h => rw [h.number, h.conf]
  | appended => rfl
  | removed => rfl

/-! ## U and the sockets -/

/-- A restored lane is summed: an empty one, or one of a sound copy (R24). -/
theorem restoredTable_summed {now : Nat} {k : Conf} {r : Retained} {l : Lane}
    (h : l ∈ (restoredTable now k r).lanes) : l.Summed k.gap := by
  rcases restoredTable_lane h with ⟨hp, hu, hs⟩ | ⟨p, _, w, _, hsound, hp, hu, hs⟩
  · exact ⟨by rw [hp, hu]; rfl, by rw [hs]; exact Nat.zero_le _⟩
  · simp only [LaneCopy.sound, Bool.and_eq_true, decide_eq_true_iff] at hsound
    refine ⟨?_, by rw [hs]; exact hsound.2⟩
    rw [hp, hu, hsound.1]
    exact (extentSum_same _ (List.forall₂_map_right_iff.2 (List.forall₂_same.2
      fun q _ => same_restored _ q))).symm

/-- The lanes of the bay are summed. -/
structure State.Summed (s : State) : Prop where
  distinct : s.table.Distinct
  lanes : ∀ l ∈ s.table.lanes, l.Summed s.conf.gap

theorem summed_iff : s.LaneSums ↔ s.Summed :=
  ⟨fun ⟨hd, hl⟩ => ⟨hd, fun l h => ⟨(hl l h).1, (hl l h).2⟩⟩,
    fun ⟨hd, hl⟩ => ⟨hd, fun l h => ⟨(hl l h).used, (hl l h).sockets⟩⟩⟩

theorem Micro.summed (h : Micro c u v) (hu : u.Summed) : v.Summed := by
  induction h with
  | started b g hc hd =>
    refine ⟨u.booted_distinct b g, ?_⟩
    rcases u.booted_table b g with he | ⟨k, _, hload, hk, he⟩ <;> rw [he]
    · exact fun _ h => absurd h List.not_mem_nil
    · rw [hk]; exact fun _ => restoredTable_summed
  | settled =>
    obtain ⟨e, h, he⟩ := u.settleRestart_shape
    rw [he]; exact { hu with }
  | completed part =>
    obtain ⟨r, hr⟩ := u.completeWrite_shape part
    rw [hr]; exact { hu with }
  | vehicles y k h hv =>
    refine ⟨hv.distinct hu.distinct, fun l hl => ?_⟩
    obtain ⟨j, hj, hstep⟩ := hv.mem_lanes hu.distinct hl
    exact hstep.summed (hu.lanes j hj)
  | _ => exact { hu with }

/-! ## The own sums (R49) -/

/-- The arm of a lane number is that of the place it names. -/
theorem armOf_congr {t k : LaneTable}
    (h : k.lanes.map (fun l => (l.number, l.conf)) = t.lanes.map fun l => (l.number, l.conf)) (n : Nat) :
    k.armOf n = t.armOf n := by
  have harm : ∀ t : LaneTable, t.armOf n =
      (((t.lanes.map fun l => (l.number, l.conf)).find? fun x => decide (x.1 = n)).map
        fun x => x.2.y).getD 0 := by
    intro t
    have hfind : (t.lanes.map fun l => (l.number, l.conf)).find? (fun x => decide (x.1 = n)) =
        (t.lane? n).map fun l => (l.number, l.conf) := List.find?_map ..
    rw [hfind]
    unfold LaneTable.armOf
    cases t.lane? n <;> rfl
  rw [harm, harm, h]

theorem VehicleStep.places {y : TallyUnit} {k : LaneTable} {h : HandedOn} (hv : VehicleStep s y k h)
    (hd : s.table.Distinct) :
    k.lanes.map (fun l => (l.number, l.conf)) = s.table.lanes.map fun l => (l.number, l.conf) :=
  forall₂_map_eq (hv.lanes hd) fun _ _ h => h.place

theorem mT_congr {t k : LaneTable}
    (h : k.lanes.map (fun l => (l.number, l.conf)) = t.lanes.map fun l => (l.number, l.conf))
    (e : Inbound) : e.mT k = e.mT t := by
  rw [Inbound.mT, Inbound.mT, armOf_congr h]

theorem Record.Same.moments {q r : Record} (h : q.Same r) (k : LaneConf) :
    r.mT k = q.mT k ∧ r.mL k = q.mL k := by
  simp only [Record.mT, Record.mL, Record.centre, h.weight, h.front, h.length, and_self]

theorem Lane.Same.moments {k l : Lane} (h : k.Same l) : l.sumT = k.sumT ∧ l.sumL = k.sumL := by
  rw [Lane.sumT, Lane.sumT, Lane.sumL, Lane.sumL, h.conf,
    forall₂_map_eq h.placed fun _ _ hr => (hr.moments k.conf).1,
    forall₂_map_eq h.placed fun _ _ hr => (hr.moments k.conf).2]
  exact ⟨rfl, rfl⟩

theorem Inbound.Same.moments {d e : Inbound} (h : d.Same e) (t : LaneTable) :
    e.mT t = d.mT t ∧ e.mL = d.mL := by
  simp only [Inbound.mT, Inbound.mL, h.arrival.weight, h.lane, h.centre, and_self]

theorem append_moments (gap : Int) (l : Lane) (r : Record) :
    (l.append gap r).sumT = l.sumT + r.mT l.conf ∧ (l.append gap r).sumL = l.sumL + r.mL l.conf := by
  simp [Lane.sumT, Lane.sumL, Lane.append]

theorem removeTail_moments (gap : Int) {l : Lane} {r : Record} (h : l.tail? = some r) :
    (l.removeTail gap r).sumT = l.sumT + -(r.mT l.conf) ∧
      (l.removeTail gap r).sumL = l.sumL + -(r.mL l.conf) := by
  have hp := Lane.placed_eq_of_tail h
  have hT : l.sumT = (l.placed.dropLast.map (Record.mT l.conf)).sum + r.mT l.conf := by
    conv_lhs => rw [Lane.sumT, hp]
    simp
  have hL : l.sumL = (l.placed.dropLast.map (Record.mL l.conf)).sum + r.mL l.conf := by
    conv_lhs => rw [Lane.sumL, hp]
    simp
  rw [hT, hL]
  unfold Lane.removeTail Lane.sumT Lane.sumL
  exact ⟨by ring, by ring⟩

/-- A sum over the lanes moves by what the one lane of an updated number moves. -/
theorem sum_updateLane {t : LaneTable} (hd : t.Distinct) {l : Lane} (hl : l ∈ t.lanes)
    {f : Lane → Lane} {F : Lane → Int} {d : Int} (hf : F (f l) = F l + d) :
    (((t.updateLane l.number f).lanes).map F).sum = (t.lanes.map F).sum + d := by
  unfold LaneTable.updateLane LaneTable.Distinct at *
  dsimp only
  generalize t.lanes = ls at *
  induction ls with
  | nil => cases hl
  | cons k ls ih =>
    obtain ⟨hk, htail⟩ := List.nodup_cons.1 hd
    simp only [List.map_cons, List.sum_cons]
    rcases List.mem_cons.1 hl with rfl | hl
    · have hrest : (ls.map fun k => if k.number = l.number then f k else k) = ls := by
        refine (List.map_congr_left fun k hk' => if_neg fun hn => hk ?_).trans (List.map_id _)
        exact List.mem_map.2 ⟨k, hk', hn⟩
      rw [hrest, if_pos rfl, hf]
      ring
    · have hne : k.number ≠ l.number := fun hn => hk (List.mem_map.2 ⟨l, hl, hn.symm⟩)
      rw [if_neg hne, ih htail hl]
      ring

theorem sum_map_erase_entry {es : List Inbound} {e : Inbound} (h : e ∈ es) (F : Inbound → Int) :
    ((es.erase e).map F).sum = (es.map F).sum + -(F e) := by
  have hperm := ((List.perm_cons_erase h).map F).sum_eq
  rw [List.map_cons, List.sum_cons] at hperm
  omega

/-- The own sums exact over what the bay holds. -/
structure State.Balanced (s : State) : Prop where
  distinct : s.table.Distinct
  ownT : s.tally.ownT = s.table.sumT
  ownL : s.tally.ownL = s.table.sumL

theorem balanced_iff : s.Ledger ↔ s.Balanced :=
  ⟨fun ⟨h₁, h₂, h₃⟩ => ⟨h₁, h₂, h₃⟩, fun ⟨h₁, h₂, h₃⟩ => ⟨h₁, h₂, h₃⟩⟩

/-- The moments of a table from its lanes and its entries, at the arms of another with the same places. -/
theorem sums_of {t k : LaneTable}
    (h : k.lanes.map (fun l => (l.number, l.conf)) = t.lanes.map fun l => (l.number, l.conf)) :
    k.sumT = (k.lanes.map Lane.sumT).sum + (k.inbound.map (Inbound.mT t)).sum := by
  rw [LaneTable.sumT, List.map_congr_left fun e _ => mT_congr h e]

theorem VehicleStep.sums {y : TallyUnit} {k : LaneTable} {h : HandedOn} (hv : VehicleStep s y k h)
    (hs : s.Balanced) : y.ownT = k.sumT ∧ y.ownL = k.sumL := by
  obtain ⟨hd, hT, hL⟩ := hs
  have hplaces := hv.places hd
  rw [LaneTable.sumT] at hT
  rw [LaneTable.sumL] at hL
  rw [sums_of hplaces, LaneTable.sumL]
  induction hv with
  | relabelled _ hb ht =>
    rw [forall₂_map_eq ht.lanes fun _ _ h => h.moments.1,
      forall₂_map_eq ht.lanes fun _ _ h => h.moments.2,
      forall₂_map_eq ht.inbound fun _ _ h => (h.moments s.table).1,
      forall₂_map_eq ht.inbound fun _ _ h => (h.moments s.table).2]
    exact ⟨hT, hL⟩
  | ranked l rs hb hl hr hn hh =>
    have hsame : l.Same { l with placed := rs } := { Lane.Same.refl l with placed := hr }
    rw [sum_updateLane hd hl (d := 0) (by rw [Int.add_zero]; exact hsame.moments.1),
      sum_updateLane hd hl (d := 0) (by rw [Int.add_zero]; exact hsame.moments.2),
      Int.add_zero, Int.add_zero]
    exact ⟨hT, hL⟩
  | released f hr => exact ⟨hT, hL⟩
  | reserved w x hb hw hx hl hr => exact ⟨hT, hL⟩
  | converted r due hm hl hr hi =>
    simp only [TallyUnit.moved, List.map_append, List.map_singleton, List.sum_append,
      List.sum_singleton]
    exact ⟨by rw [hT, Int.add_assoc], by rw [hL, Int.add_assoc]⟩
  | unexpected l length hl hp hn r hr =>
    simp only [State.appended, TallyUnit.moved,
      sum_updateLane hd hl (append_moments s.conf.gap l r).1,
      sum_updateLane hd hl (append_moments s.conf.gap l r).2, hT, hL]
    exact ⟨Int.add_right_comm _ _ _, Int.add_right_comm _ _ _⟩
  | matched l e m due hl he hp hn hi r hr =>
    have hmT : e.mT (s.appended l r) = e.mT s.table :=
      mT_congr (k := s.appended l r) hplaces e
    simp only [TallyUnit.moved, sum_map_erase_entry he, hmT]
    simp only [State.appended,
      sum_updateLane hd hl (append_moments s.conf.gap l r).1,
      sum_updateLane hd hl (append_moments s.conf.gap l r).2, hT, hL]
    exact ⟨by ring, by ring⟩
  | left l r hl hr hn =>
    simp only [TallyUnit.moved,
      sum_updateLane hd hl (removeTail_moments s.conf.gap hr).1,
      sum_updateLane hd hl (removeTail_moments s.conf.gap hr).2, hT, hL]
    exact ⟨Int.add_right_comm _ _ _, Int.add_right_comm _ _ _⟩
  | missing e he hn hi =>
    simp only [TallyUnit.moved, sum_map_erase_entry he, hT, hL]
    exact ⟨Int.add_assoc _ _ _, Int.add_assoc _ _ _⟩

theorem State.booted_sums (b : Bool) (g : Fin 4) (s : State) :
    (s.booted b g).tally.ownT = (s.booted b g).table.sumT ∧
      (s.booted b g).tally.ownL = (s.booted b g).table.sumL := by
  rcases booted_cases b g s with ⟨_, h⟩ | ⟨k, _, _, ⟨_, _, h⟩ | ⟨_, h⟩⟩ <;> rw [h] <;>
    exact ⟨rfl, rfl⟩

theorem Micro.balanced (h : Micro c u v) (hu : u.Balanced) : v.Balanced := by
  induction h with
  | started b g hc hd =>
    exact ⟨u.booted_distinct b g, (u.booted_sums b g).1, (u.booted_sums b g).2⟩
  | tally y hy =>
    obtain ⟨hT, hL⟩ := hy.sums
    exact ⟨hu.distinct, hT.trans hu.ownT, hL.trans hu.ownL⟩
  | settled =>
    obtain ⟨e, h, he⟩ := u.settleRestart_shape
    rw [he]; exact { hu with }
  | completed part =>
    obtain ⟨r, hr⟩ := u.completeWrite_shape part
    rw [hr]; exact { hu with }
  | vehicles y k h hv =>
    exact ⟨hv.distinct hu.distinct, (hv.sums hu).1, (hv.sums hu).2⟩
  | _ => exact { hu with }

/-! ## The front distances and the copies (R5, R178, R179) -/

/-- The front distances stand in the lanes and in the copies, and a copy emptied by a configuration write has
no write in flight. -/
structure State.Fronted (s : State) : Prop where
  distinct : s.table.Distinct
  lanes : ∀ l ∈ s.table.lanes, l.Stands s.conf.gap
  copies : s.retained.LanesHold fun c => frontsFrom (ConfigStore.loaded s.store).gap 0 c.placed = true
  gap : s.retained.stopped = false →
    s.table.lanes = [] ∨ s.conf.gap = (ConfigStore.loaded s.store).gap
  still : s.retained.stopped = true → s.retained.writeInFlight = false

theorem fronted_iff : s.FrontsStand ↔ s.Fronted :=
  ⟨fun ⟨h₁, h₂, h₃, h₄, h₅⟩ => ⟨h₁, fun l h => ⟨(h₂ l h).1, (h₂ l h).2⟩, h₃, h₄, h₅⟩,
    fun ⟨h₁, h₂, h₃, h₄, h₅⟩ => ⟨h₁, fun l h => ⟨(h₂ l h).fronts, (h₂ l h).used⟩, h₃, h₄, h₅⟩⟩

theorem copy_same (l : Lane) : List.Forall₂ Record.Same l.placed l.copy.placed :=
  List.forall₂_map_right_iff.2 (List.forall₂_same.2 fun r _ => same_retained r)

/-- A lane's copy has the front distances of the lane, for the gap of the store. -/
theorem State.Fronted.copy (h : s.Fronted) (hs : s.retained.stopped = false) {l : Lane}
    (hl : l ∈ s.table.lanes) :
    frontsFrom (ConfigStore.loaded s.store).gap 0 l.copy.placed = true := by
  rw [frontsFrom_same (copy_same l)]
  rcases h.gap hs with hnil | hgap
  · rw [hnil] at hl; cases hl
  · rw [← hgap]; exact (h.lanes l hl).fronts

theorem broken_still (r : Retained) : r.broken.writeInFlight = false := by
  have part : ∀ {α : Type} (p : Part α), p.broken.writing = none := by
    intro α p
    unfold Part.broken
    split
    · exact ‹_›
    · rfl
  have hnode : r.node.broken.writing = none := by
    unfold NodePart.broken
    split
    · exact ‹_›
    · rfl
  simp only [Retained.writeInFlight, Retained.broken, part, hnode, List.any_map, Bool.or_eq_false_iff,
    List.any_eq_false, Function.comp_apply, Option.isSome_none, Bool.false_eq_true, not_false_eq_true,
    implies_true, and_self]

theorem emptied_still : Retained.emptied.writeInFlight = false := by decide

/-- With no write in flight a completion finds nothing (R179). -/
theorem completeWrite_still (part : CopyPart) (h : s.retained.writeInFlight = false) :
    s.completeWrite part = s := by
  simp only [Retained.writeInFlight, Bool.or_eq_false_iff, List.any_eq_false,
    Option.isSome_eq_false_iff, Option.isNone_iff_eq_none,
    Bool.not_eq_true] at h
  obtain ⟨⟨hlanes, hinbound⟩, hnode⟩ := h
  have part_still : ∀ {α : Type} (x : α) (p : Part α), p.writing = none → p.complete x = p := by
    intro α x p hp
    unfold Part.complete
    rw [hp]
  cases part with
  | lane n =>
    have hps : completeLane s.table n s.retained.lanes = s.retained.lanes := by
      unfold completeLane
      split
      · rfl
      · refine (List.map_congr_left fun p hp => ?_).trans (List.map_id _)
        split
        · rw [part_still _ _ (hlanes p hp)]; rfl
        · rfl
    show s.setRetained { s.retained with lanes := completeLane s.table n s.retained.lanes } = s
    rw [hps]; rfl
  | inbound =>
    show s.setRetained { s.retained with inbound := s.retained.inbound.complete s.inboundCopy } = s
    rw [part_still _ _ hinbound]; rfl
  | node =>
    have hn : s.retained.node.complete s.nodeCopy = s.retained.node := by
      unfold NodePart.complete
      rw [hnode]
    show s.setRetained { s.retained with node := s.retained.node.complete s.nodeCopy } = s
    rw [hn]; rfl

theorem State.completeWrite_stopped (part : CopyPart) (s : State) :
    (s.completeWrite part).retained.stopped = s.retained.stopped := by
  cases part <;> rfl

theorem restoredTable_stands {now : Nat} {k : Conf} {r : Retained}
    (hr : r.LanesHold fun c => frontsFrom k.gap 0 c.placed = true) {l : Lane}
    (h : l ∈ (restoredTable now k r).lanes) : l.Stands k.gap := by
  refine ⟨?_, (restoredTable_summed h).used⟩
  rcases restoredTable_lane h with ⟨hp, _⟩ | ⟨p, hp, w, hw, _, hq, _⟩
  · rw [hp]; rfl
  · rw [hq, frontsFrom_same (rs := w.placed) (List.forall₂_map_right_iff.2 (List.forall₂_same.2
      fun q _ => same_restored _ q))]
    exact (hr p hp).1 w hw

theorem loadConfig_gap {k : ConfigStore} {x : Conf × Bool} (h : loadConfig k = some x) :
    x.1.gap = (ConfigStore.loaded k).gap := by
  unfold loadConfig at h
  split at h
  · cases h
  · obtain rfl := Option.some.inj h
    rfl

theorem State.Fronted.booted (h : s.Fronted) (b : Bool) (g : Fin 4) : (s.booted b g).Fronted := by
  have hret := s.booted_retained b g
  have hstore := (s.booted_frame b g).2.2.2
  have hcopies : (s.booted b g).retained.LanesHold fun c =>
      frontsFrom (ConfigStore.loaded (s.booted b g).store).gap 0 c.placed = true := by
    rw [hret, hstore]; exact h.copies
  have hstill : (s.booted b g).retained.stopped = true →
      (s.booted b g).retained.writeInFlight = false := by
    rw [hret]; exact fun h => (nomatch h)
  rcases s.booted_table b g with he | ⟨k, _, hload, hk, he⟩
  · exact ⟨s.booted_distinct b g, by rw [he]; exact fun _ h => absurd h List.not_mem_nil, hcopies,
      fun _ => .inl (by rw [he]; rfl), hstill⟩
  · have hgap := loadConfig_gap hload
    refine ⟨s.booted_distinct b g, ?_, hcopies, fun _ => .inr (by rw [hk, hstore]; exact hgap), hstill⟩
    rw [he, hk]
    refine fun l hl => restoredTable_stands ?_ hl
    rw [show k.gap = _ from hgap]
    exact h.copies

theorem Micro.fronted (h : Micro c u v) (hu : u.Fronted) : v.Fronted := by
  induction h with
  | powered hc =>
    exact { hu with
      copies := broken_lanesHold hu.copies, still := fun _ => broken_still _ }
  | stored k hc =>
    exact { hu with
      copies := emptied_lanesHold _
      gap := fun h => (nomatch h)
      still := fun _ => emptied_still }
  | completed part hc =>
    cases hw : u.retained.writeInFlight with
    | false => rw [completeWrite_still part hw]; exact hu
    | true =>
      have hrun : u.retained.stopped = false := by
        by_contra hs
        have := hu.still (by simpa using hs)
        rw [hw] at this
        cases this
      have hlanes := completeWrite_lanesHold part hu.copies fun _ l hl => hu.copy hrun hl
      have hstop := u.completeWrite_stopped part
      obtain ⟨r, hr⟩ := u.completeWrite_shape part
      rw [hr] at hlanes hstop ⊢
      refine { hu with copies := hlanes, gap := fun _ => hu.gap hrun, still := fun hs => ?_ }
      rw [hstop, hrun] at hs
      cases hs
  | started b g hc hd => exact hu.booted b g
  | settled =>
    obtain ⟨e, h, he⟩ := u.settleRestart_shape
    rw [he]; exact { hu with }
  | vehicles y k h hv =>
    refine { hu with
      distinct := hv.distinct hu.distinct, lanes := fun l hl => ?_, gap := fun hs => ?_ }
    · obtain ⟨j, hj, hstep⟩ := hv.mem_lanes hu.distinct hl
      exact hstep.stands (hu.lanes j hj)
    · refine (hu.gap hs).imp_left fun hnil => ?_
      have hall := hv.lanes hu.distinct
      rw [hnil] at hall
      exact List.forall₂_nil_left_iff.1 hall
  | _ => exact { hu with }

theorem State.Fronted.written (h : s.Fronted) : s.written.Fronted := by
  have hlanes := written_lanesHold h.copies fun hs l hl => h.copy hs hl
  have hstop : s.written.retained.stopped = s.retained.stopped := by
    rcases s.written_retained with ⟨_, he⟩ | ⟨_, he⟩ <;> rw [he]
  have hstill : s.retained.stopped = true → s.written.retained = s.retained := fun hs => by
    rcases s.written_retained with ⟨_, he⟩ | ⟨hn, _⟩
    · exact he
    · exact absurd (.inr hs) hn
  obtain ⟨r, hr⟩ := s.written_eq
  rw [hr] at hlanes hstop hstill ⊢
  refine { h with
    copies := hlanes
    gap := fun hs => h.gap (hstop.symm.trans hs), still := fun hs => ?_ }
  have hs' := hstop.symm.trans hs
  rw [hstill hs']
  exact h.still hs'

/-- Settles O5. -/
theorem sumsKept : Obligations.SumsKept := by
  refine ⟨fun s t h => ⟨fun hs => ?_, fun hs => ?_⟩, fun s t h hs => ?_⟩
  · rw [summed_iff] at hs ⊢
    exact step_keeps_of_micro (fun _ _ h => { h with }) (fun _ _ _ h => { h with })
      (fun _ _ _ => Micro.summed) h hs
  · rw [balanced_iff] at hs ⊢
    exact step_keeps_of_micro (fun _ _ h => { h with }) (fun _ _ _ h => { h with })
      (fun _ _ _ => Micro.balanced) h hs
  · rw [fronted_iff] at hs ⊢
    exact step_keeps (P := State.Fronted) (Q := State.Fronted) (fun _ _ h => { h with })
      (fun u h => Micro.fronted (c := .ack) (.clock u _ (Nat.le_succ _)) h) (fun _ h => { h with })
      (fun _ _ _ => Micro.fronted) (fun _ _ h => h.written) h hs

end Sys2Proof.Machine
end

section
/-! PROOFS. Each booking at most once in the bay, and what the evaluation in flight knows of them (R14, R41). -/

namespace Sys2Proof.Machine

open Sys2Proof

variable {c : Instr} {s u v t : State}

/-! ## The bookings of a table (R14) -/

/-- The bookings of the placed records. -/
def LaneTable.placedBookings (t : LaneTable) : List Nat :=
  t.lanes.flatMap fun l => l.placed.filterMap (·.booking)

theorem bookings_eq (t : LaneTable) :
    t.bookings = t.placedBookings ++ t.inbound.map (·.arrival.booking) ++
      t.reservations.map (·.arrival.booking) := by
  show (t.lanes.map Lane.snap).flatMap _ ++ _ ++ _ = _
  rw [List.flatMap_map]
  rfl

theorem placedBookings_same {ks ls : List Lane} (h : List.Forall₂ Lane.Same ks ls) :
    (ls.flatMap fun l => l.placed.filterMap (·.booking)) =
      ks.flatMap fun l => l.placed.filterMap (·.booking) := by
  have hrecords : ∀ k l : Lane, k.Same l →
      l.placed.filterMap (·.booking) = k.placed.filterMap (·.booking) := by
    intro k l hs
    have := hs.placed
    generalize k.placed = qs at this
    generalize l.placed = rs at this
    induction this with
    | nil => rfl
    | cons hr _ ih => rw [List.filterMap_cons, List.filterMap_cons, hr.booking, ih]
  rw [List.flatMap_def, List.flatMap_def, forall₂_map_eq h hrecords]

/-- The bookings of lanes of which one is updated. -/
theorem placedBookings_updateLane {t : LaneTable} (hd : t.Distinct) {l : Lane}
    (hl : l ∈ t.lanes) (f : Lane → Lane) :
    ∃ pre post, t.placedBookings = pre ++ l.placed.filterMap (·.booking) ++ post ∧
      (t.updateLane l.number f).placedBookings =
        pre ++ (f l).placed.filterMap (·.booking) ++ post := by
  obtain ⟨ks, js, hks⟩ := List.append_of_mem hl
  have hfar : ∀ k ∈ ks ++ js, k.number ≠ l.number := by
    rw [LaneTable.Distinct, hks, List.map_append, List.map_cons,
      List.perm_middle.nodup_iff, ← List.map_append] at hd
    intro k hk hn
    exact (List.nodup_cons.1 hd).1 (List.mem_map.2 ⟨k, hk, hn⟩)
  have hkeep : ∀ is : List Lane, (∀ k ∈ is, k ∈ ks ++ js) →
      (is.map fun k => if k.number = l.number then f k else k) = is := fun is his =>
    (List.map_congr_left fun k hk => if_neg (hfar k (his k hk))).trans (List.map_id _)
  refine ⟨ks.flatMap fun k => k.placed.filterMap (·.booking),
    js.flatMap fun k => k.placed.filterMap (·.booking), ?_, ?_⟩
  · rw [LaneTable.placedBookings, hks, List.flatMap_append, List.flatMap_cons, List.append_assoc]
  · rw [LaneTable.placedBookings, LaneTable.updateLane]
    dsimp only
    rw [hks, List.map_append, List.map_cons, if_pos rfl,
      hkeep ks fun k hk => List.mem_append_left _ hk,
      hkeep js fun k hk => List.mem_append_right _ hk,
      List.flatMap_append, List.flatMap_cons, List.append_assoc]

/-- A record appended brings its booking, if it has one. -/
theorem placedBookings_appended (hd : s.table.Distinct) {l : Lane} (hl : l ∈ s.table.lanes)
    (r : Record) :
    (s.appended l r).placedBookings.Perm (s.table.placedBookings ++ r.booking.toList) := by
  obtain ⟨pre, post, hold, hnew⟩ :=
    placedBookings_updateLane hd hl (Lane.append s.conf.gap r)
  have hr : (l.append s.conf.gap r).placed.filterMap (·.booking) =
      l.placed.filterMap (·.booking) ++ r.booking.toList := by
    show (l.placed ++ [r]).filterMap _ = _
    rw [List.filterMap_append]
    cases h : r.booking <;> simp [h]
  rw [State.appended, hnew, hold, hr]
  simp only [List.append_assoc]
  exact (List.perm_append_comm.append_left _).append_left _

theorem subperm_nodup {xs ys : List Nat} (h : xs.Subperm ys) (hy : ys.Nodup) : xs.Nodup := by
  obtain ⟨zs, hperm, hsub⟩ := h
  exact hperm.nodup_iff.1 (hy.sublist hsub)

/-- No small step but a new reservation brings a booking into the bay. -/
theorem VehicleStep.bookings {y : TallyUnit} {k : LaneTable} {h : HandedOn} (hv : VehicleStep s y k h)
    (hd : s.table.Distinct) :
    k.bookings.Subperm s.table.bookings ∨
      ∃ w x, s.eval.inFlight = some w ∧ chooseLane s.conf w.snapshot w.call.arrival = some x ∧
        s.handed.restart = false ∧ h.restart = true ∧
        k.bookings = s.table.bookings ++ [w.call.arrival.booking] := by
  rw [bookings_eq, bookings_eq]
  induction hv with
  | relabelled _ hb ht =>
    refine .inl (List.Perm.subperm (.of_eq ?_))
    rw [LaneTable.placedBookings, placedBookings_same ht.lanes,
      forall₂_map_eq ht.inbound fun _ _ h => h.arrival.booking,
      forall₂_map_eq ht.reservations fun _ _ h => h.arrival.booking]
    rfl
  | ranked l rs hb hl hr hn hh =>
    have hsame : List.Forall₂ Lane.Same s.table.lanes
        (s.table.updateLane l.number fun k => { k with placed := rs }).lanes :=
      updateLane_forall₂ hd hl { Lane.Same.refl l with placed := hr } Lane.Same.refl
    refine .inl (List.Perm.subperm (.of_eq ?_))
    rw [LaneTable.placedBookings, placedBookings_same hsame]
    rfl
  | released f hr =>
    exact .inl (((List.Sublist.refl _).append (List.filter_sublist.map _)).subperm)
  | reserved w x hb hw hx hl hr =>
    refine .inr ⟨w, x, hw, hx, hr, rfl, ?_⟩
    rw [List.map_append, ← List.append_assoc]
    rfl
  | converted r due hm hl hr hi =>
    refine .inl (List.Perm.subperm ?_)
    have hres := (List.perm_cons_erase hm).map (·.arrival.booking)
    rw [List.map_append, List.append_assoc, List.append_assoc, List.append_assoc]
    exact ((hres.symm).append_left _).append_left _
  | unexpected l length hl hp hn r hr =>
    subst hr
    refine .inl (List.Perm.subperm ?_)
    have happended := placedBookings_appended hd hl
      (unidentified s.conf.unidentifiedWeight length l.used)
    rw [show (unidentified s.conf.unidentifiedWeight length l.used).booking.toList = [] from rfl,
      List.append_nil] at happended
    exact (happended.append_right _).append_right _
  | matched l e m due hl he hp hn hi r hr =>
    subst hr
    refine .inl (List.Perm.subperm ?_)
    have happended := placedBookings_appended hd hl (matchedRecord s.table l e m due)
    have hin := (List.perm_cons_erase he).map (·.arrival.booking)
    refine List.Perm.append_right _ ?_
    refine (happended.append_right _).trans ?_
    rw [List.append_assoc]
    exact hin.symm.append_left _
  | left l r hl hr hn =>
    obtain ⟨pre, post, hold, hnew⟩ :=
      placedBookings_updateLane hd hl (Lane.removeTail s.conf.gap r)
    rw [hold, hnew]
    have hsub : ((l.removeTail s.conf.gap r).placed.filterMap (·.booking)).Sublist
        (l.placed.filterMap (·.booking)) := (List.dropLast_sublist _).filterMap _
    exact .inl (((((List.Sublist.refl pre).append hsub).append (.refl post)).append
      (.refl _)).append (.refl _)).subperm
  | missing e he hn hi =>
    exact .inl ((((List.Sublist.refl _).append (List.erase_sublist.map _)).append (.refl _)).subperm)

/-! ## The invariant -/

/-- The snapshot of the evaluation in flight knows every booking of the bay. -/
abbrev State.KnowsBookings (s : State) : Prop :=
  ∀ w ∈ s.eval.inFlight, ∀ b ∈ s.table.bookings, b ∈ w.snapshot.stowage.bookings

/-- Within an event the bookings stand once, and are known unless a restart is to come. -/
structure State.Booked (s : State) : Prop where
  distinct : s.table.Distinct
  once : s.table.bookings.Nodup
  known : s.handed.restart = false → s.KnowsBookings

theorem chooseLane_new {k : Conf} {snap : Snapshot} {a : Arrival} {x : Choice}
    (h : chooseLane k snap a = some x) : a.booking ∉ snap.stowage.bookings := by
  have hb := chooseLane_bayTests h
  rw [bayTests, Bool.and_eq_true] at hb
  intro hmem
  have := hb.2
  rw [test12, List.contains_iff_mem.2 hmem] at this
  cases this

theorem HandedOn.Grows.restart_false {h k : HandedOn} (hg : h.Grows k) (hk : k.restart = false) :
    h.restart = false := by
  by_contra hr
  have := hg.restart (by simpa using hr)
  rw [hk] at this
  cases this

theorem VehicleStep.restart {y : TallyUnit} {k : LaneTable} {h : HandedOn} (hv : VehicleStep s y k h)
    (hr : h.restart = false) : s.handed.restart = false := by
  induction hv with
  | reserved | unexpected | matched | left => cases hr
  | relabelled | ranked | released | converted | missing => exact hr

theorem EvalStep.knowsBookings {e : Evaluator} (h : EvalStep u e) (hr : u.handed.restart = false)
    (hu : u.KnowsBookings) : (u.setEval e).KnowsBookings := by
  induction h with
  | restarted =>
    intro w hw b hb
    obtain ⟨x, _, rfl⟩ := Option.map_eq_some_iff.1 hw
    exact hb
  | idled => exact fun w hw => (nomatch hw)
  | congested h => exact fun w hw => (nomatch hw)
  | advanced hr' => rw [hr] at hr'; cases hr'
  | known | closed | dropped | queued | eased => exact hu

theorem Micro.booked (hc : ∀ a g, c ≠ .start a g) (h : Micro c u v) (hu : u.Booked) : v.Booked := by
  induction h with
  | hand h hg => exact { hu with known := fun hr => hu.known (hg.restart_false hr) }
  | started b g hs => exact absurd hs (hc b g)
  | eval e hb he => exact { hu with known := fun hr => he.knowsBookings hr (hu.known hr) }
  | taken x rest hb hq hp =>
    exact { hu with known := fun _ w hw b hb => Option.some.inj hw ▸ hb }
  | settled =>
    have hframe := u.settleRestart_frame
    have htable : u.settleRestart.table = u.table := (congrArg State.table hframe :)
    refine ⟨htable ▸ hu.distinct, htable ▸ hu.once, fun _ => ?_⟩
    rw [State.KnowsBookings, htable]
    rcases u.settleRestart_cases with ⟨_, he⟩ | ⟨hr, he⟩ <;> rw [he]
    · intro w hw b hb
      rw [State.setHanded_eval, State.restartEvaluation_eq] at hw
      obtain ⟨x, _, rfl⟩ := Option.map_eq_some_iff.1 hw
      exact hb
    · exact hu.known hr
  | completed part =>
    obtain ⟨r, hr⟩ := u.completeWrite_shape part
    rw [hr]; exact { hu with }
  | vehicles y k h hv =>
    refine ⟨hv.distinct hu.distinct, ?_, fun hr => ?_⟩
    · rcases hv.bookings hu.distinct with hsub | ⟨w, x, hw, hx, hr, _, he⟩
      · exact subperm_nodup hsub hu.once
      · show k.bookings.Nodup
        rw [he, List.nodup_append]
        refine ⟨hu.once, List.nodup_singleton _, fun b hb b' hb' => ?_⟩
        rw [List.mem_singleton.1 hb']
        rintro rfl
        exact chooseLane_new hx (hu.known hr w hw _ hb)
    · rcases hv.bookings hu.distinct with hsub | ⟨w, x, hw, hx, _, hr', _⟩
      · exact fun w hw b hb => hu.known (hv.restart hr) w hw b (hsub.subset hb)
      · exact absurd (hr'.symm.trans hr) (by decide)
  | _ => exact { hu with }

/-- Settles O7. -/
theorem bookingsKeptOnce : Obligations.BookingsKeptOnce := by
  intro s t c hc h hs
  refine exec_keeps (P := State.BookingsOnce) (Q := State.Booked)
    (fun _ hu => ⟨hu.1, hu.2.1, fun _ => hu.2.2⟩) (fun _ _ => Micro.booked hc) (fun u hr hu => ?_) h hs
  obtain ⟨r, he⟩ := u.written_eq
  rw [he]
  exact ⟨hu.distinct, hu.once, hu.known hr⟩

/-! ## Promises (R12, R64, R75, R77, R79) -/

/-- Within an event the promises hold, and the evaluation in flight works on the reservations held unless a
restart is to come (R75). -/
structure State.Promised (s : State) : Prop where
  given : ¬ s.MayPromise → s.table.reservations = [] ∧ s.eval.Empty
  congested : s.eval.congested = true → s.eval.Empty
  idle : s.eval.inFlight = none → s.eval.callQueue = []
  current : s.handed.restart = false → s.SnapshotCurrent

/-- A node with a CALL in hand may promise and is not congested. -/
theorem State.Promised.busy (h : s.Promised) (hb : s.eval.inFlight ≠ none ∨ s.eval.callQueue ≠ []) :
    s.MayPromise ∧ s.eval.congested = false := by
  have hempty : ¬ s.eval.Empty := fun he => hb.elim (absurd he.1) (absurd he.2)
  refine ⟨by_contra fun hm => hempty (h.given hm).2, ?_⟩
  by_contra hc
  exact hempty (h.congested (by simpa using hc))

theorem EvalStep.promised {e : Evaluator} (h : EvalStep s e) (hs : s.Promised) :
    (s.setEval e).Promised := by
  have keep : ∀ (w : Option Evaluation) (q : List QueuedCall), (s.eval.Empty → w = none ∧ q = []) →
      (¬ s.MayPromise → s.table.reservations = [] ∧ w = none ∧ q = []) := fun w q hk hm =>
    ⟨(hs.given hm).1, hk (hs.given hm).2⟩
  induction h with
  | restarted =>
    have hk : s.eval.Empty → s.eval.inFlight.map (fun v =>
        { v with snapshot := s.snapshot, restarts := v.restarts + 1 }) = none ∧
          s.eval.callQueue = [] := fun he => ⟨by rw [he.1]; rfl, he.2⟩
    refine ⟨keep _ _ hk, fun hc => hk (hs.congested hc), fun hn => hs.idle ?_, fun _ w hw => ?_⟩
    · exact Option.map_eq_none_iff.1 hn
    · obtain ⟨x, _, rfl⟩ := Option.map_eq_some_iff.1 hw
      rfl
  | idled =>
    exact ⟨keep _ _ fun _ => ⟨rfl, rfl⟩, fun _ => ⟨rfl, rfl⟩, fun _ => rfl, fun _ w hw => (nomatch hw)⟩
  | known rr => exact { hs with }
  | closed f =>
    have hk : s.eval.Empty → s.eval.inFlight = none ∧ s.eval.callQueue.filter f = [] :=
      fun he => ⟨he.1, by rw [he.2]; rfl⟩
    exact ⟨keep _ _ hk, fun hc => hk (hs.congested hc), fun hn => (hk ⟨hn, hs.idle hn⟩).2, hs.current⟩
  | dropped n hn => exact { hs with }
  | queued x hf hq =>
    obtain ⟨hm, hc⟩ := hs.busy (.inl hf)
    exact ⟨fun h => absurd hm h, fun h => absurd (hc.symm.trans h) (by decide), fun h => absurd h hf,
      hs.current⟩
  | advanced hr =>
    have hk : s.eval.Empty → s.eval.advance.Empty := fun he =>
      ⟨by simp [Evaluator.advance, he.1], by simp [Evaluator.advance, he.2]⟩
    refine ⟨keep _ _ hk, fun hc => hk (hs.congested hc), fun hn => ?_, fun h =>
      absurd (hr.symm.trans h) (by decide)⟩
    have hf : s.eval.inFlight = none := Option.map_eq_none_iff.1 hn
    exact (hk ⟨hf, hs.idle hf⟩).2
  | congested h =>
    exact ⟨keep _ _ fun _ => ⟨rfl, rfl⟩, fun _ => ⟨rfl, rfl⟩, fun _ => rfl, fun _ w hw => (nomatch hw)⟩
  | eased h => exact ⟨hs.given, fun hc => (nomatch hc), hs.idle, hs.current⟩

/-- The line state moves only to SILENT, where a bay has given up its promises, and back to NORMAL. -/
theorem DliStep.line {d : Dli} (h : DliStep s d) :
    d.line = s.dli.line ∨ d.line = .normal ∨
      (d.line = .silent ∧ (s.conf.role = .bay → s.table.reservations = [] ∧ s.eval.Empty)) := by
  induction h with
  | put p hl hp => exact .inl (handInNormal_line s.tally.callNumber p s.dli).1
  | silent hl hb n due hn => exact .inr (.inr ⟨rfl, hb⟩)
  | normal => exact .inr (.inl rfl)
  | probe | probeTime | takeOut | started | lost | ended | again | counted => exact .inl rfl

theorem State.booted_empty (b : Bool) (g : Fin 4) (s : State) :
    (s.booted b g).table.reservations = [] ∧ (s.booted b g).eval.Empty := by
  rcases booted_cases b g s with ⟨_, h⟩ | ⟨k, _, _, ⟨_, _, h⟩ | ⟨_, h⟩⟩ <;> rw [h] <;>
    exact ⟨rfl, rfl, rfl⟩

/-- With nothing promised and no CALL in hand the promises hold. -/
theorem promised_of_empty (hr : s.table.reservations = []) (he : s.eval.Empty) : s.Promised :=
  ⟨fun _ => ⟨hr, he⟩, fun _ => he, fun _ => he.2, fun _ w hw => by rw [he.1] at hw; cases hw⟩

/-- The reservations stand where no restart is to come, and where none were none are. -/
theorem VehicleStep.reservations {y : TallyUnit} {k : LaneTable} {h : HandedOn}
    (hv : VehicleStep s y k h) (hidle : s.eval.inFlight = none) :
    s.table.reservations = [] → k.reservations = [] := by
  intro hr
  induction hv with
  | relabelled _ hb ht => exact List.forall₂_nil_left_iff.1 (hr ▸ ht.reservations)
  | released f hf => show List.filter f _ = []; rw [hr]; rfl
  | reserved w x hb hw => rw [hidle] at hw; cases hw
  | converted r due hm => rw [hr] at hm; cases hm
  | ranked | unexpected | matched | left | missing => exact hr

theorem VehicleStep.held {y : TallyUnit} {k : LaneTable} {h : HandedOn}
    (hv : VehicleStep s y k h) (hr : h.restart = false) : k.reservations = s.table.reservations := by
  induction hv with
  | relabelled _ hb ht =>
    exact ht.held.resolve_right fun h => absurd (h.symm.trans hr) (by decide)
  | released f hf => exact absurd (hf.symm.trans hr) (by decide)
  | converted r due hm hl hf hi => exact absurd (hf.symm.trans hr) (by decide)
  | reserved => cases hr
  | ranked | unexpected | matched | left | missing => rfl

theorem Micro.promised (h : Micro c u v) (hu : u.Promised) : v.Promised := by
  induction h with
  | hand h hg => exact { hu with current := fun hr => hu.current (hg.restart_false hr) }
  | started b g hc hd =>
    obtain ⟨hr, he⟩ := u.booted_empty b g
    exact promised_of_empty hr he
  | node n hn =>
    induction hn with
    | active h =>
      obtain ⟨hr, he⟩ := hu.given fun hm => by rw [hm.2.1] at h; simp at h
      exact promised_of_empty hr he
    | recovery h hr he => exact promised_of_empty hr he
    | withdrawn h =>
      obtain ⟨hr, he⟩ := hu.given fun hm => absurd (h.symm.trans hm.2.1) (by decide)
      exact promised_of_empty hr he
  | dli d hd =>
    refine { hu with given := fun hm => ?_ }
    rcases hd.line with hl | hl | ⟨hl, hb⟩
    · exact hu.given fun h => hm ⟨h.1, h.2.1, hl.trans h.2.2⟩
    · exact hu.given fun h => hm ⟨h.1, h.2.1, hl⟩
    · by_cases hrole : u.conf.role = .bay
      · exact hb hrole
      · exact hu.given fun h => hrole h.1
  | eval e hb he => exact he.promised hu
  | taken x rest hb hq hp =>
    have hbusy : u.MayPromise ∧ u.eval.congested = false := by
      rcases hp with hp | hp | hp
      · exact hu.busy (.inl hp)
      · exact hu.busy (.inr hp)
      · exact hp
    exact ⟨fun hm => absurd hbusy.1 hm, fun hc => absurd (hbusy.2.symm.trans hc) (by decide),
      fun hn => (nomatch hn), fun _ w hw => Option.some.inj hw ▸ rfl⟩
  | settled =>
    rcases u.settleRestart_cases with ⟨_, he⟩ | ⟨_, he⟩ <;> rw [he]
    · rw [State.restartEvaluation_eq]
      have hnew := (EvalStep.restarted (s := u)).promised hu
      refine { hnew with current := fun _ w hw => ?_ }
      obtain ⟨x, _, rfl⟩ := Option.map_eq_some_iff.1 hw
      rfl
    · exact hu
  | completed part =>
    obtain ⟨r, hr⟩ := u.completeWrite_shape part
    rw [hr]; exact { hu with }
  | vehicles y k h hv =>
    refine { hu with given := fun hm => ?_, current := fun hr w hw => ?_ }
    · obtain ⟨hr, he⟩ := hu.given hm
      exact ⟨hv.reservations he.1 hr, he⟩
    · exact (hu.current (hv.restart hr) w hw).trans (hv.held hr).symm
  | _ => exact { hu with }

/-- Settles O8. -/
theorem promisesKept : Obligations.PromisesKept := by
  intro s t h hs
  refine step_keeps (P := fun u => u.PromisesHeld ∧ u.SnapshotCurrent) (Q := State.Promised)
    (fun _ _ => id) (fun _ => id) (fun _ ⟨⟨h₁, h₂, h₃⟩, h₄⟩ => ⟨h₁, h₂, h₃, fun _ => h₄⟩)
    (fun _ _ _ => Micro.promised) (fun u hr hu => ?_) h hs
  obtain ⟨r, he⟩ := u.written_eq
  rw [he]
  exact ⟨⟨hu.given, hu.congested, hu.idle⟩, hu.current hr⟩

end Sys2Proof.Machine
end

section
/-! PROOFS. The reset state and the commands that are turned aside (O1, O3, O4, O30). -/

namespace Sys2Proof.Machine

open Sys2Proof

/-- Settles O1: with a command at the front a step is `exec` of it, by the definition of `step`. -/
theorem stepTakesFrontCommand : Obligations.StepTakesFrontCommand := fun _ _ _ => rfl

/-- Settles O4: the reset state holds nothing, so that each list invariant is one of the empty list, and it
waits for its start with a blank copy. -/
theorem resetIsSafe : Obligations.ResetIsSafe := by
  have hsums : State.reset.LaneSums ∧ State.reset.Ledger := by decide
  have hfronts : State.reset.FrontsStand := by decide
  have hcaps : State.reset.WithinCapacities ∧ State.reset.RanksBounded := by decide
  have hbookings : State.reset.BookingsOnce := by decide
  have hpromises : State.reset.PromisesHeld ∧ State.reset.SnapshotCurrent := by decide
  have hqueues : State.reset.RampQueue ∧ State.reset.LineQueue ∧ State.reset.ConditionOrder := by decide
  have hconf : State.reset.ConfInRange := fun h => absurd rfl h
  have hroles : State.reset.RoleApart := by decide
  have hcopies : State.reset.CopiesFollow :=
    ⟨by decide, by decide, by decide, by decide, fun _ => rfl, fun h => absurd rfl h⟩
  exact ⟨hsums.1, hsums.2, hfronts, hcaps.1, hcaps.2, hbookings, hpromises.1, hpromises.2,
    hqueues.1, hqueues.2.1, hqueues.2.2, hconf, hroles, hcopies⟩

/-! ## Commands that find nothing to act on -/

variable {s : State}

theorem event_unmoved {f : State → State} (h : f s.unmoved = s.unmoved) :
    s.event f = s.unmoved :=
  (State.event_of_clear (f := f) (s := s) (congrArg State.handed h :)).trans h

/-- A panel command that is answered and does nothing else. -/
theorem event_answered {f : State → State} {a : Answer} (h : f s.unmoved = s.unmoved.answer a) :
    s.event f = s.answered a :=
  (State.event_of_clear (f := f) (s := s) (congrArg State.handed h :)).trans h

theorem panelCommand_running {f : State → State} (h : s.life = .running) :
    s.panelCommand f = f s := by
  unfold State.panelCommand
  rw [h]

theorem panelCommand_closed {f : State → State} (h : s.life ≠ .running) :
    s.panelCommand f = s := by
  unfold State.panelCommand
  cases hl : s.life with
  | running => exact absurd hl h
  | closing => rfl
  | starting => rfl

theorem laneCommand_bay {n : Nat} {act : Lane → State → State} (hb : s.IsBay) {l : Lane}
    (hl : s.table.lane? n = some l) : s.laneCommand n act = act l s := by
  rw [State.laneCommand, panelCommand_running hb.1.1, if_pos hb, hl]

theorem laneCommand_refused {n : Nat} {act : Lane → State → State} (hr : s.life = .running)
    (h : ¬ s.IsBay ∨ s.table.lane? n = none) : s.laneCommand n act = s.answer .refused := by
  rw [State.laneCommand, panelCommand_running hr]
  by_cases hb : s.IsBay
  · rw [if_pos hb, h.resolve_left (not_not_intro hb)]
  · rw [if_neg hb]

theorem not_bay_of_ramp (h : s.conf.role = .ramp) : ¬ s.IsBay :=
  fun hb => Role.noConfusion (h.symm.trans hb.2)

theorem not_ramp_of_bay (h : s.conf.role = .bay) : ¬ s.IsRamp :=
  fun hr => Role.noConfusion (h.symm.trans hr.2)

/-- Settles O30: a lane command finds no lane record of a bay, OPEN ALL no bay, and ADVANCE PORT no ACTIVE
ramp or an advance held already. -/
theorem commandsRefused : Obligations.CommandsRefused := by
  intro s n rank
  refine ⟨fun hc h => ?_, fun hr => ?_, fun h => ?_⟩
  · have refused (act : Lane → State → State) :
        s.event (State.laneCommand n act) = s.answered .refused :=
      event_answered (laneCommand_refused hc.1 (h.imp not_bay_of_ramp id))
    exact ⟨congrArg _ (refused _), congrArg _ (refused _), congrArg _ (refused _),
      congrArg _ (refused _)⟩
  · refine congrArg Host.Outcome.next (event_answered ?_)
    exact (panelCommand_running (s := s.unmoved) hr.1.1).trans (if_neg (not_bay_of_ramp hr.2))
  · refine congrArg Host.Outcome.next (event_answered ?_)
    have hlife : s.life = .running := by
      rcases h with hb | ⟨hr, _⟩ | ⟨hr, _⟩
      · exact hb.1.1
      · exact hr.1.1
      · exact hr.1.1
    refine (panelCommand_running (s := s.unmoved) hlife).trans ?_
    by_cases ha : s.unmoved.IsRamp ∧ s.unmoved.node = .active
    · rw [if_pos ha]
      rcases h with hb | ⟨_, hn⟩ | ⟨_, ho, hh⟩
      · exact absurd ha.1 (not_ramp_of_bay hb.2)
      · exact absurd ha.2 hn
      · obtain ⟨o, ho⟩ := Option.ne_none_iff_exists'.1 ho
        rw [ho]
        exact if_pos hh
    · rw [if_neg ha]

/-! ## Nodes that are closed, wait for their start or are UNCONFIGURED (R177, R178) -/

theorem not_bay_of_not_configured (h : ¬ s.Configured) : ¬ s.IsBay := fun hb => h hb.1

theorem not_ramp_of_not_configured (h : ¬ s.Configured) : ¬ s.IsRamp := fun hr => h hr.1

/-- A command that only a node of one role takes, or only a configured one, leaves the others as they are. -/
theorem event_guarded {p : State → Prop} [DecidablePred p] {f : State → State}
    (h : ¬ p s.unmoved) : s.event (fun u => if p u then f u else u) = s.unmoved :=
  event_unmoved (if_neg h)

theorem receive_not_configured {h : RxHeader} {p : Payload} {take : State → State}
    (hc : ¬ s.Configured) : s.event (State.receive h p take) = s.unmoved :=
  event_unmoved (if_neg fun ha => hc ha.1)

theorem sensorMessage_not_taken {agrees : Bool} {take : State → State}
    (h : ¬ s.IsBay ∨ agrees = false) : s.event (State.sensorMessage agrees take) = s.unmoved := by
  refine event_unmoved (if_neg fun ha => ?_)
  rcases h with hb | hf
  · exact hb ha.1
  · exact Bool.noConfusion (hf.symm.trans ha.2)

/-- A node that is closed answers no panel command. -/
theorem event_panel_closed {f : State → State} (h : s.life ≠ .running) :
    s.event (State.panelCommand f) = s.unmoved :=
  event_unmoved (panelCommand_closed h)

/-- What reaches only configured nodes leaves a node that is none as it is (R177, R178). -/
theorem exec_not_configured {c : Instr} (hc : ¬ s.Configured) (ha : reachesAnyNode c = false)
    (hp : s.life = .running → isPanelCommand c = false) : exec c s = .next s.unmoved := by
  have hb : ¬ s.unmoved.IsBay := not_bay_of_not_configured hc
  have hr : ¬ s.unmoved.IsRamp := not_ramp_of_not_configured hc
  have hl (h : isPanelCommand c = true) : s.life ≠ .running :=
    fun hrun => Bool.noConfusion ((hp hrun).symm.trans h)
  induction c with
  | powerOn | start _ _ | configurationWrite _ | stopLineRisingEdge | gradientClassChange _
  | copyWriteCompletion _ => exact Bool.noConfusion ha
  | panelReset =>
    refine congrArg Host.Outcome.next (event_unmoved ?_)
    unfold State.takePanelReset
    cases hs : s.unmoved.life with
    | running => exact absurd hs (hl rfl)
    | closing => rfl
    | starting => rfl
  | openLane _ | closeLane _ | openAll | release _ _ | lashConfirm _ | ack | advancePort =>
    exact congrArg Host.Outcome.next (event_panel_closed (hl rfl))
  | arrival _ _ => exact congrArg Host.Outcome.next (event_unmoved (if_neg fun h => hr h.1))
  | call _ _ | offer _ _ | award _ _ | decline _ _ | placed _ _ | noticeMissing _ _ | tally _ _
  | noticeWithdrawn _ | portcall _ _ => exact congrArg Host.Outcome.next (receive_not_configured hc)
  | enter _ _ _ | leave _ _ _ | sensorFault _ _ | sensorClear _ _ | level _ _ _ | surveyEnd _ =>
    exact congrArg Host.Outcome.next (sensorMessage_not_taken (.inl hb))
  | listenIntervalEnd | transmitStart _ | attemptEnd _ | probeTime =>
    exact congrArg Host.Outcome.next (event_unmoved (if_neg hc))
  | windowTimerExpiry | notBeforeTimePasses _ => exact congrArg Host.Outcome.next (event_unmoved (if_neg hr))
  | surveyTimerExpiry | evaluationCompletion | deadlineExpiry _ | reservationExpiry _
  | travelTimerExpiry _ | lashTimerExpiry _ | tallyPeriod | tallySpacingEnd | peerEntryStale _ =>
    exact congrArg Host.Outcome.next (event_unmoved (if_neg hb))

/-- An UNCONFIGURED running node refuses every panel command but PANEL RESET (R19, R178). -/
theorem exec_unconfigured_refused {c : Instr} (hr : s.life = .running) (hn : s.node = .unconfigured)
    (hp : isPanelCommand c = true) (hne : c ≠ .panelReset) : exec c s = .next (s.answered .refused) := by
  have hb : ¬ s.unmoved.IsBay := fun h => h.1.2 hn
  have hm : ¬ (s.unmoved.IsRamp ∧ s.unmoved.node = .active) := fun h => h.1.1.2 hn
  have lane (n : Nat) (act : Lane → State → State) :
      s.event (State.laneCommand n act) = s.answered .refused :=
    event_answered (laneCommand_refused hr (.inl hb))
  have panel {f : State → State} (hf : f s.unmoved = s.unmoved.answer .refused) :
      s.event (State.panelCommand f) = s.answered .refused :=
    event_answered ((panelCommand_running (s := s.unmoved) hr).trans hf)
  induction c with
  | panelReset => exact absurd rfl hne
  | openLane n => exact congrArg Host.Outcome.next (lane n _)
  | closeLane n => exact congrArg Host.Outcome.next (lane n _)
  | release n rank => exact congrArg Host.Outcome.next (lane n _)
  | lashConfirm n => exact congrArg Host.Outcome.next (lane n _)
  | openAll => exact congrArg Host.Outcome.next (panel (if_neg hb))
  | ack => exact congrArg Host.Outcome.next (panel (if_pos hn))
  | advancePort => exact congrArg Host.Outcome.next (panel (if_neg hm))
  | _ => exact Bool.noConfusion hp

/-- A message whose form or check word is not its row's does not agree (R162). -/
theorem messageAgrees_false {row : List Byte} {k : RxCheck}
    (h : k.form ≠ .asRow ∨ k.word ≠ checkWord row) : messageAgrees row k = false := by
  rw [Bool.eq_false_iff, ne_eq, messageAgrees_iff]
  rintro rfl
  exact h.elim (fun hf => hf rfl) fun hw => hw rfl

/-- Settles O3, by the guard that each command's meaning puts before it. -/
theorem commandsTurnedAside : Obligations.CommandsTurnedAside := by
  refine ⟨fun s c => ⟨exec_not_configured, ?_, exec_unconfigured_refused⟩, fun s lane m check => ?_⟩
  · rintro hr rfl
    refine congrArg Host.Outcome.next (State.event_of_clear (f := State.takePanelReset) ?_ |>.trans ?_)
    all_goals
      unfold State.takePanelReset
      rw [show (s.setHanded HandedOn.clear).life = .running from hr]
      rfl
  · have turned {row : List Byte} {take : State → State}
        (h : ¬ s.IsBay ∨ check.form ≠ .asRow ∨ check.word ≠ checkWord row) :
        s.event (State.sensorMessage (messageAgrees row check) take) = s.unmoved :=
      sensorMessage_not_taken (h.imp id messageAgrees_false)
    exact ⟨fun h => congrArg _ (turned h), fun h => congrArg _ (turned h),
      fun h => congrArg _ (turned h), fun h => congrArg _ (turned h),
      fun h => congrArg _ (turned h), fun h => congrArg _ (turned h)⟩

end Sys2Proof.Machine
end

section
/-! PROOFS. How the event of a bay ends: the evaluation restarted, the TALLY caused and the copies written, each
once, as what was handed on asks for (R18, R72, R140, R179). -/

namespace Sys2Proof.Machine

open Sys2Proof

variable {s w t : State}

/-! ## The stages of the end -/

/-- The evaluation in flight through the restart of an event, if one was asked for. -/
def State.restartedFlight (s : State) : Option Evaluation :=
  if s.handed.restart = true then
    s.eval.inFlight.map fun v => { v with snapshot := s.snapshot, restarts := v.restarts + 1 }
  else s.eval.inFlight

theorem State.restartIfAsked_eq (s : State) :
    s.restartIfAsked = s.setEval { s.eval with inFlight := s.restartedFlight } := by
  unfold State.restartIfAsked State.restartedFlight
  split
  · exact s.restartEvaluation_eq
  · rfl

/-- The Tally Unit after a TALLY is built (R140). -/
def TallyUnit.built (now : Nat) (u : TallyUnit) : TallyUnit :=
  { u with seq := u.seq + 1, lastBuild := some now, pendingChange := false }

/-- A TALLY is built and handed in in NORMAL (R139, R140, R151). -/
theorem buildTally_eq (h : s.dli.line = .normal) :
    ∃ ds, s.buildTally =
      ((s.setTally (s.tally.built s.now)).setDli
        (s.dli.handInNormal s.tally.callNumber
          (.tally ((s.setTally (s.tally.built s.now)).tallyPayload (s.tally.seq + 1)))).1).setHanded
        { s.handed with node := true, drops := ds } := by
  have hl : s.countBuild.dli.line = .normal := h
  unfold State.buildTally State.handIn
  dsimp only
  rw [hl]
  exact ⟨_, rfl⟩

/-- A cause of a TALLY changes the Tally Unit and the DLI as R140 says, and what is handed on. -/
theorem State.causeTally_ends (s : State) :
    ∃ T D ds, s.causeTally = ((s.setTally T).setDli D).setHanded
        { s.handed with node := s.handed.node || s.buildsNow s.dli, drops := ds } ∧
      TallyCaused s.dli s ((s.setTally T).setDli D) ∧ SumsMoved 0 0 s ((s.setTally T).setDli D) := by
  have hsums (T : TallyUnit) (D : Dli) (h : T.ownT = s.tally.ownT ∧ T.ownL = s.tally.ownL ∧
      T.callNumber = s.tally.callNumber ∧ T.peers = s.tally.peers) :
      SumsMoved 0 0 s ((s.setTally T).setDli D) :=
    ⟨h.1.trans (Int.add_zero _).symm, h.2.1.trans (Int.add_zero _).symm, h.2.2⟩
  rcases s.causeTally_cases with ⟨hl, hs, h⟩ | ⟨hn, h⟩
  · obtain ⟨ds, hb⟩ := buildTally_eq hl
    have hnow : s.buildsNow s.dli = true := by simp [hl, hs]
    refine ⟨s.tally.built s.now, _, ds, by rw [h, hb, hnow, Bool.or_true], ?_, hsums _ _ ⟨rfl, rfl, rfl, rfl⟩⟩
    rw [TallyCaused, if_pos hnow]
    exact ⟨rfl, rfl, rfl, rfl⟩
  · have hnow : ¬ s.buildsNow s.dli = true := by simpa using hn
    refine ⟨{ s.tally with pendingChange := true }, s.dli, s.handed.drops, ?_, ?_,
      hsums _ _ ⟨rfl, rfl, rfl, rfl⟩⟩
    · rw [h, Bool.eq_false_iff.2 hnow, Bool.or_false]
      rfl
    · rw [TallyCaused, if_neg hnow]
      exact ⟨rfl, rfl, rfl, rfl⟩

/-- The copy writes of an event at a configured node (R178, R179). -/
theorem written_copied (hn : s.node ≠ .unconfigured) :
    ∃ R, s.written = (s.setRetained R).setHanded HandedOn.clear ∧
      Copied s.handed.lanes s.handed.inbound s.handed.node s ((s.setRetained R).setHanded HandedOn.clear) := by
  unfold State.written State.beginCopyWrites
  by_cases hr : s.retained.stopped = true
  · rw [if_pos (.inr hr)]
    exact ⟨s.retained, rfl, (if_pos hr).symm⟩
  · rw [if_neg (not_or.2 ⟨hn, hr⟩)]
    exact ⟨_, rfl, (if_neg hr).symm⟩

/-! ## The end of an event of a bay -/

/-- The event of a bay that had led to `w` has ended in `t`: what `w` hands on is done, each once. -/
structure BayEnds (w t : State) : Prop where
  eval : EvaluatorKept w.handed.restart w t
  tally : if w.handed.tally = true then TallyCaused w.dli w t ∧ SumsMoved 0 0 w t
    else t.tally = w.tally ∧ t.dli = w.dli
  copies : Copied w.handed.lanes w.handed.inbound
    (w.handed.node || (w.handed.tally && w.buildsNow w.dli)) w t
  frame : { t with
    eval := w.eval, tally := w.tally, dli := w.dli, retained := w.retained, handed := w.handed } = w
  clear : t.handed = HandedOn.clear

/-- The TALLY of a bay's event: caused where it is handed on. -/
theorem tallyIfAsked_ends (hb : s.IsBay) :
    ∃ T D H, s.tallyIfAsked = ((s.setTally T).setDli D).setHanded H ∧
      H.lanes = s.handed.lanes ∧ H.inbound = s.handed.inbound ∧
      H.node = (s.handed.node || (s.handed.tally && s.buildsNow s.dli)) ∧
      SumsMoved 0 0 s ((s.setTally T).setDli D) ∧
      (s.handed.tally = true → TallyCaused s.dli s ((s.setTally T).setDli D)) ∧
      (s.handed.tally = false → T = s.tally ∧ D = s.dli) := by
  unfold State.tallyIfAsked
  by_cases h : s.handed.tally = true
  · rw [if_pos ⟨h, hb⟩, h, Bool.true_and]
    obtain ⟨T, D, ds, ht, hc, hs⟩ := s.causeTally_ends
    exact ⟨T, D, _, ht, rfl, rfl, rfl, hs, fun _ => hc, fun k => Bool.noConfusion k⟩
  · rw [if_neg fun k => h k.1, Bool.eq_false_iff.2 h, Bool.false_and, Bool.or_false]
    exact ⟨s.tally, s.dli, s.handed, rfl, rfl, rfl, rfl,
      ⟨(Int.add_zero _).symm, (Int.add_zero _).symm, rfl, rfl⟩, fun k => Bool.noConfusion k,
      fun _ => ⟨rfl, rfl⟩⟩

/-- A snapshot reads the lists, the configuration, the own sums and the peer table alone (R70). -/
theorem snapshot_kept (ht : t.table = s.table) (hc : t.conf = s.conf) (hs : SumsMoved 0 0 s t) :
    t.snapshot = s.snapshot := by
  obtain ⟨hT, hL, _, hp⟩ := hs
  unfold State.snapshot State.estimateT State.estimateL
  rw [ht, hc, hT, hL, hp, Int.add_zero, Int.add_zero]

/-- The fields of a TALLY are those of the blocks it reports of (R139). -/
theorem tallyPayload_congr (seq : Byte) (hn : t.node = s.node) (hc : t.conf = s.conf)
    (ht : t.table = s.table) (hu : t.tally = s.tally) (he : t.eval.congested = s.eval.congested) :
    t.tallyPayload seq = s.tallyPayload seq := by
  unfold State.tallyPayload
  rw [hn, hc, ht, hu, he]

/-- A TALLY caused is the same in a state with the same clock, blocks and own sums. -/
theorem TallyCaused.congr {d : Dli} (h : TallyCaused d s w) (hnow : t.now = w.now)
    (hu : t.tally = w.tally) (hd : t.dli = w.dli)
    (hp : t.tallyPayload w.tally.seq = w.tallyPayload w.tally.seq) : TallyCaused d s t := by
  unfold TallyCaused at h ⊢
  rwa [hnow, hu, hd, hp]

/-- What the event of a bay has to hand on, done in order. -/
theorem handedOn_ends (hb : w.IsBay) : BayEnds w w.restartIfAsked.tallyIfAsked.written := by
  have hr := w.restartIfAsked_eq
  obtain ⟨E, hE⟩ : ∃ E, E = { w.eval with inFlight := w.restartedFlight } := ⟨_, rfl⟩
  rw [← hE] at hr
  rw [hr]
  obtain ⟨T, D, H, ht, hlanes, hinbound, hnode, hs, hcaused, hkept⟩ :=
    tallyIfAsked_ends (s := w.setEval E) hb
  rw [ht]
  obtain ⟨R, hw, hc⟩ := written_copied (s := (((w.setEval E).setTally T).setDli D).setHanded H) hb.1.2
  rw [hw]
  refine ⟨⟨?_, by subst hE; rfl⟩, ?_, ?_, by cases w; rfl, rfl⟩
  · have hsnap : ((w.setTally T).setDli D).snapshot = w.snapshot := snapshot_kept rfl rfl hs
    have hflight : E.inFlight = w.restartedFlight := by rw [hE]
    unfold State.restartedFlight at hflight
    by_cases h : w.handed.restart = true
    · rw [if_pos h]
      rw [if_pos h, ← hsnap] at hflight
      exact hflight
    · rw [if_neg h]
      rwa [if_neg h] at hflight
  · by_cases h : w.handed.tally = true
    · rw [if_pos h]
      have hc : TallyCaused w.dli w (((w.setEval E).setTally T).setDli D) := hcaused h
      exact ⟨hc.congr rfl rfl rfl (tallyPayload_congr _ rfl rfl rfl rfl rfl), hs⟩
    · rw [if_neg h]
      exact hkept (Bool.eq_false_iff.2 h)
  · simp only [State.setHanded_handed, hlanes, hinbound, hnode] at hc
    exact hc

/-- No drop of the event finds a round or a dispatched entry: none is reported, or the rounds are idle. -/
abbrev State.Quiet (w : State) : Prop :=
  w.handed.drops = [] ∨ (w.rounds.openRound = none ∧ w.rounds.dispatched = [])

theorem State.RoleApart.idle (h : s.RoleApart) (hb : s.IsBay) :
    s.rounds.openRound = none ∧ s.rounds.dispatched = [] :=
  ⟨(h.1 hb.2).1, (h.1 hb.2).2.2.1⟩

/-- Drops that find nothing are settled by leaving them. -/
theorem settleDrops_quiet (h : w.Quiet) :
    w.settleDrops = w.setHanded { w.handed with drops := [] } := by
  have one (d : Drop) (u : State) (hu : u.rounds.openRound = none ∧ u.rounds.dispatched = []) :
      u.settleDrop d = u := by
    cases d with
    | call r => rw [State.settleDrop, State.startWindow, hu.1]
    | award r bay => rw [State.settleDrop, State.cancelDispatched, hu.2]; rfl
  unfold State.settleDrops
  rcases h with h | hidle
  · rw [h]
    rfl
  · generalize hu : w.setHanded { w.handed with drops := [] } = u
    replace hidle : u.rounds.openRound = none ∧ u.rounds.dispatched = [] := by rw [← hu]; exact hidle
    induction w.handed.drops with
    | nil => rfl
    | cons d ds ih => rw [List.foldl_cons, one d u hidle]; exact ih

theorem lookIfAsked_bay (hb : w.conf.role = .bay) : w.lookIfAsked = w := by
  unfold State.lookIfAsked State.lookForCallable
  split
  · exact if_neg fun h => not_ramp_of_bay hb h.1
  · rfl

/-- The end of an event of a bay: what its effect hands on, each once (R18). -/
theorem finish_bay (hb : w.IsBay) (hq : w.Quiet) : BayEnds w w.finish := by
  have hdrops : (w.settleDrops.lookIfAsked).settleDrops = w.setHanded { w.handed with drops := [] } := by
    rw [settleDrops_quiet hq, lookIfAsked_bay (by exact hb.2)]
    exact settleDrops_quiet (w := w.setHanded { w.handed with drops := [] }) (.inl rfl)
  have hfin : w.finish =
      (w.setHanded { w.handed with drops := [] }).restartIfAsked.tallyIfAsked.written := by
    unfold State.finish
    rw [hdrops]
    rfl
  rw [hfin]
  have h := handedOn_ends (w := w.setHanded { w.handed with drops := [] }) hb
  generalize State.written _ = t at h ⊢
  exact ⟨h.eval, h.tally, h.copies,
    (congrArg (fun u : State => { u with handed := w.handed }) h.frame :), h.clear⟩

/-- A command at a bay ends as what its effect hands on says. -/
theorem event_bay {f : State → State} (hw : f s.unmoved = w) (hb : w.IsBay) (hq : w.Quiet) :
    ∃ t, s.event f = t ∧ BayEnds w t :=
  ⟨w.finish, congrArg State.finish hw, finish_bay hb hq⟩

/-! ## Reading the end of an event -/

/-- What TallyCaused reads of the state before: the clock and the last build. -/
theorem TallyCaused.before {d : Dli} (h : TallyCaused d w t) (hnow : w.now = s.now)
    (hs : w.tally.seq = s.tally.seq) (hl : w.tally.lastBuild = s.tally.lastBuild) :
    TallyCaused d s t := by
  unfold TallyCaused State.buildsNow State.spacingOver at h ⊢
  rwa [hnow, hs, hl] at h

namespace BayEnds

variable (h : BayEnds w t)
include h

/-- The event was a cause of a TALLY. -/
theorem caused {d : Dli} (ha : w.handed.tally = true) (hd : w.dli = d) (hnow : w.now = s.now)
    (hs : w.tally.seq = s.tally.seq) (hl : w.tally.lastBuild = s.tally.lastBuild) : TallyCaused d s t :=
  hd ▸ ((if_pos ha).mp h.tally).1.before hnow hs hl

/-- The own sums as the event's effect left them. -/
theorem sums {dT dL : Int} (hT : w.tally.ownT = s.tally.ownT + dT) (hL : w.tally.ownL = s.tally.ownL + dL)
    (hc : w.tally.callNumber = s.tally.callNumber) (hp : w.tally.peers = s.tally.peers) :
    SumsMoved dT dL s t := by
  have hs : SumsMoved 0 0 w t := by
    by_cases ha : w.handed.tally = true
    · exact ((if_pos ha).mp h.tally).2
    · rw [SumsMoved, ((if_neg ha).mp h.tally).1]
      exact ⟨(Int.add_zero _).symm, (Int.add_zero _).symm, rfl, rfl⟩
  obtain ⟨hT', hL', hc', hp'⟩ := hs
  exact ⟨by rw [hT', hT, Int.add_zero], by rw [hL', hL, Int.add_zero], hc'.trans hc, hp'.trans hp⟩

/-- No cause of a TALLY, and no frame handed in at the end of the event. -/
theorem uncaused (ha : w.handed.tally = false) : t.tally = w.tally ∧ t.dli = w.dli :=
  (if_neg (Bool.eq_false_iff.1 ha)).mp h.tally

/-- The copies that the event wrote. -/
theorem copied {lanes : List Nat} {inbound node : Bool} (hr : w.retained = s.retained)
    (hl : w.handed.lanes = lanes) (hi : w.handed.inbound = inbound)
    (hn : (w.handed.node || (w.handed.tally && w.buildsNow w.dli)) = node) :
    Copied lanes inbound node s t := by
  have hc := h.copies
  unfold Copied at hc ⊢
  rwa [hr, hl, hi, hn] at hc

/-- The evaluator of the event, restarted where that is handed on. -/
theorem evaluator {again : Bool} (ha : w.handed.restart = again) (he : w.eval = s.eval) :
    EvaluatorKept again s t := by
  have hk := h.eval
  unfold EvaluatorKept Restarted at hk ⊢
  rwa [ha, he] at hk

/-- With no restart the evaluator stands as the event's effect left it. -/
theorem still (ha : w.handed.restart = false) : t.eval = w.eval := by
  obtain ⟨hf, hk⟩ := h.eval
  rw [ha] at hf
  rw [← hk, ← ((if_neg Bool.false_ne_true).mp hf)]

/-- With no restart the end of the event changes the TALLY, the queue and the copies alone. -/
theorem frame_still (ha : w.handed.restart = false) :
    { t with tally := w.tally, dli := w.dli, retained := w.retained, handed := w.handed } = w := by
  have hf := h.frame
  rw [← h.still ha] at hf
  exact hf

/-- With no restart and no TALLY it changes the copies alone. -/
theorem frame_quiet (hr : w.handed.restart = false) (ha : w.handed.tally = false) :
    { t with retained := w.retained, handed := w.handed } = w := by
  have hf := h.frame_still hr
  rw [← (h.uncaused ha).1, ← (h.uncaused ha).2] at hf
  exact hf

end BayEnds

/-- With no part to write the retained copy stands. -/
theorem Copied.nothing (h : Copied [] false false s t) : t.retained = s.retained := by
  unfold Copied at h
  rw [h]
  split <;> rfl

/-! ## Updates of one lane -/

/-- Two updates of a lane in turn are one. -/
theorem updateLane_updateLane {n : Nat} {f g : Lane → Lane}
    (hf : ∀ l, (f l).number = l.number) (t : LaneTable) :
    (t.updateLane n f).updateLane n g = t.updateLane n fun l => g (f l) := by
  unfold LaneTable.updateLane
  rw [List.map_map]
  refine congrArg (fun ls => { t with lanes := ls }) (List.map_congr_left fun l _ => ?_)
  by_cases h : l.number = n
  · simp [h, hf]
  · simp [h]

/-- With the lane numbers distinct an update is known by what it makes of the lane found (R1). -/
theorem updateLane_congr {n : Nat} {f g : Lane → Lane} {t : LaneTable} (hd : t.Distinct)
    {l : Lane} (hl : t.lane? n = some l) (h : f l = g l) : t.updateLane n f = t.updateLane n g := by
  obtain ⟨hmem, hn⟩ := LaneTable.lane?_some hl
  refine congrArg (fun ls => { t with lanes := ls }) (List.map_congr_left fun k hk => ?_)
  by_cases hkn : k.number = n
  · rw [eq_of_number hd hk hmem (hkn.trans hn.symm), if_pos hn, if_pos hn, h]
  · rw [if_neg hkn, if_neg hkn]

/-- An update that changes nothing of the lane found changes nothing (R1). -/
theorem updateLane_same {n : Nat} {f : Lane → Lane} {t : LaneTable} (hd : t.Distinct)
    (h : ∀ l, t.lane? n = some l → f l = l) : t.updateLane n f = t := by
  unfold LaneTable.updateLane
  refine congrArg (fun ls => { t with lanes := ls }) ((List.map_congr_left fun k hk => ?_).trans
    (List.map_id _))
  by_cases hkn : k.number = n
  · obtain ⟨l, hl⟩ := Option.isSome_iff_exists.1
      (List.find?_isSome (p := fun l : Lane => decide (l.number = n)).2 ⟨k, hk, decide_eq_true hkn⟩)
    obtain ⟨hmem, hn⟩ := LaneTable.lane?_some hl
    rw [if_pos hkn, eq_of_number hd hk hmem (hkn.trans hn.symm), h l hl]
    rfl
  · rw [if_neg hkn]
    rfl

end Sys2Proof.Machine
end

section
/-! PROOFS. The crew commands of a bay (O26, O27, O28, O29). -/

namespace Sys2Proof.Machine

open Sys2Proof

variable {s w t : State}

/-! ## OPEN, CLOSE and OPEN ALL (R20, R21) -/

/-- A change of one lane's stored state alone, answered TAKEN: a TALLY and the lane's copy (R18). -/
theorem BayEnds.of_changed {n : Nat} {u : State} {st : LaneState}
    (h : BayEnds ((u.changeStored n st).answer .taken) t) (ht : u.handed = HandedOn.clear)
    (hu : { u with table := s.table, handed := s.handed } = s) :
    t.out = { s.out with panel := s.out.panel ++ [.taken] } ∧
      TallyCaused s.dli s t ∧ SumsMoved 0 0 s t ∧ Copied [n] false (s.buildsNow s.dli) s t ∧
      { t with
        table := s.table, out := s.out, tally := s.tally, dli := s.dli
        retained := s.retained, handed := s.handed } = s := by
  obtain ⟨T, H, rfl⟩ : ∃ T H, u = { s with table := T, handed := H } :=
    ⟨u.table, u.handed, (congrArg (fun v : State => { v with table := u.table, handed := u.handed }) hu :)⟩
  have hclear : H = HandedOn.clear := ht
  subst hclear
  refine ⟨(congrArg State.out h.frame :), h.caused rfl rfl rfl rfl rfl,
    h.sums (Int.add_zero _).symm (Int.add_zero _).symm rfl rfl, h.copied rfl rfl rfl rfl, ?_⟩
  refine (congrArg (fun v : State => { v with
    table := s.table, out := s.out, tally := s.tally, dli := s.dli, retained := s.retained
    handed := s.handed }) (h.frame_still rfl) :).trans ?_
  cases s
  rfl

theorem Lane.openedAll_eq (l : Lane) :
    l.openedAll = if l.stored = .closed then { l with stored := .opened } else l := by
  unfold Lane.openedAll Lane.withStored
  cases h : l.stored <;> simp

/-- With no CLOSED lane OPEN ALL changes no lane. -/
theorem map_openedAll_self {ls : List Lane} (h : ∀ k ∈ ls, k.stored ≠ .closed) :
    ls.map Lane.openedAll = ls :=
  (List.map_congr_left fun k hk => by rw [Lane.openedAll_eq, if_neg (h k hk)]; rfl).trans
    (List.map_id _)

/-- Settles O26, lane by lane state for OPEN, and with or without a CLOSED lane for OPEN ALL. -/
theorem openOfLanes : Obligations.OpenOfLanes := by
  refine ⟨fun s n hb _ l hl => ?_, fun s hb _ => ?_⟩
  · have hone : s.unmoved.laneCommand n State.openOne = s.unmoved.openOne l :=
      laneCommand_bay (s := s.unmoved) hb hl
    refine ⟨fun hs => ?_, fun hs => ?_, fun hs => ?_⟩
    · exact congrArg Host.Outcome.next (event_answered (hone.trans (by rw [State.openOne, hs])))
    · refine congrArg Host.Outcome.next (event_answered (hone.trans ?_))
      rcases hs with hs | hs <;> rw [State.openOne, hs]
    · have hw : s.unmoved.laneCommand n State.openOne =
          (s.unmoved.changeStored n .opened).answer .taken := by
        rw [hone, State.openOne, hs, (LaneTable.lane?_some hl).2]
      obtain ⟨t, ht, he⟩ := event_bay hw hb (.inl rfl)
      exact ⟨t, congrArg Host.Outcome.next ht, (congrArg State.table he.frame :),
        he.of_changed rfl (by cases s; rfl)⟩
  · obtain ⟨ns, hns⟩ : ∃ ns, ns = (s.table.lanes.filter fun k => decide (k.stored = .closed)).map
      (·.number) := ⟨_, rfl⟩
    have hmap : s.table.lanes.map Lane.openedAll = s.table.lanes.map fun k =>
        if k.stored = .closed then { k with stored := .opened } else k :=
      List.map_congr_left fun k _ => k.openedAll_eq
    have hw : s.unmoved.panelCommand (fun u => if u.IsBay then u.openEvery else u.answer .refused) =
        ((s.unmoved.setHanded { HandedOn.clear with tally := !ns.isEmpty, lanes := ns }).setTable
          { s.table with lanes := s.table.lanes.map Lane.openedAll }).answer .taken := by
      refine (panelCommand_running (s := s.unmoved) hb.1.1).trans ((if_pos hb).trans ?_)
      rw [openEvery_eq, handStates_eq, hns]
      rfl
    obtain ⟨t, ht, he⟩ := event_bay hw hb (.inl rfl)
    refine ⟨t, congrArg Host.Outcome.next ht, ?_, (congrArg State.out he.frame :), ?_, ?_⟩
    · rw [← hmap]
      exact (congrArg State.table he.frame :)
    · by_cases hc : ∀ k ∈ s.table.lanes, k.stored ≠ .closed
      · have hnil : ns = [] := by
          rw [hns, List.map_eq_nil_iff, List.filter_eq_nil_iff]
          simpa using hc
        rw [if_pos hc]
        refine ht.symm.trans (event_answered (hw.trans ?_))
        rw [map_openedAll_self hc, hnil]
        rfl
      · have hne : ns.isEmpty = false := by
          simp only [not_forall, not_not] at hc
          obtain ⟨k, hk, hs⟩ := hc
          rw [hns, List.isEmpty_eq_false_iff, ne_eq, List.map_eq_nil_iff, List.filter_eq_nil_iff]
          exact fun h => h k hk (decide_eq_true hs)
        rw [if_neg hc, ← hns]
        have hcause : (!ns.isEmpty) = true := by rw [hne]; rfl
        refine ⟨he.caused hcause rfl rfl rfl rfl,
          he.sums (Int.add_zero _).symm (Int.add_zero _).symm rfl rfl, he.copied rfl rfl rfl ?_⟩
        exact (congrArg (fun b => false || (b && s.buildsNow s.dli)) hcause :)
    · refine (congrArg (fun v : State => { v with
        table := s.table, out := s.out, tally := s.tally, dli := s.dli, retained := s.retained
        handed := s.handed }) (he.frame_still rfl) :).trans ?_
      cases s
      rfl

/-- Settles O27: the mark goes with the lane's update, and a changed stored or remembered state with it. -/
theorem closeOfALane : Obligations.CloseOfALane := by
  intro s n hb _ hd l hl
  have hn := (LaneTable.lane?_some hl).2
  have hone : s.unmoved.laneCommand n State.closeOne = s.unmoved.closeOne l :=
    laneCommand_bay (s := s.unmoved) hb hl
  have htable : s.table.updateLane n Lane.stopped = { s.table with
      lanes := s.table.lanes.map fun k =>
        if k.number = n then
          { k with
            suspect := false
            stored := match k.stored with
              | .opened => .closed
              | .closed => .closed
              | .fault _ => .fault .closed }
        else k } := rfl
  by_cases hc : l.stored = .opened ∨ l.stored = .fault .opened
  · have hw : s.unmoved.laneCommand n State.closeOne =
        ((s.unmoved.updateLane n Lane.withoutMark).changeStored n l.stopped.stored).answer .taken := by
      rw [hone, State.closeOne, hn]
      unfold Lane.stopped
      rcases hc with hc | hc <;> rw [hc]
    obtain ⟨t, ht, he⟩ := event_bay hw hb (.inl rfl)
    obtain ⟨hout, hcaused, hsums, hcopied, hframe⟩ := he.of_changed (s := s) rfl (by cases s; rfl)
    refine ⟨t, congrArg Host.Outcome.next ht, ?_, hout, ?_, hframe⟩
    · refine (congrArg State.table he.frame :).trans ?_
      have hboth : (s.table.updateLane n Lane.withoutMark).updateLane n
          (Lane.withStored l.stopped.stored) = s.table.updateLane n Lane.stopped :=
        (updateLane_updateLane (f := Lane.withoutMark) (fun _ => rfl) _).trans
          (updateLane_congr hd hl rfl)
      exact hboth.trans htable
    · rw [if_pos hc]
      exact ⟨hcaused, hsums, hcopied⟩
  · have hsame : l.stopped.stored = l.stored := by
      cases hs : l.stored with
      | opened => exact absurd (.inl hs) hc
      | closed => simp [Lane.stopped, hs]
      | fault r =>
        cases r with
        | opened => exact absurd (.inr hs) hc
        | closed => simp [Lane.stopped, hs]
    have hw : s.unmoved.laneCommand n State.closeOne =
        (s.unmoved.updateLane n Lane.withoutMark).answer .taken := by
      rw [hone, State.closeOne, hn]
      cases hs : l.stored with
      | opened => exact absurd (.inl hs) hc
      | closed => rfl
      | fault r =>
        cases r with
        | opened => exact absurd (.inr hs) hc
        | closed => rfl
    have he : s.event (State.laneCommand n State.closeOne) =
        (s.unmoved.updateLane n Lane.withoutMark).answer .taken :=
      (State.event_of_clear (congrArg State.handed hw :)).trans hw
    refine ⟨_, congrArg Host.Outcome.next he, ?_, rfl, ?_, by cases s; rfl⟩
    · have hmark : l.withoutMark = l.stopped :=
        congrArg (fun st => { l with suspect := false, stored := st }) hsame.symm
      exact (updateLane_congr hd hl hmark).trans htable
    · rw [if_neg hc]
      exact ⟨rfl, rfl, rfl⟩

/-! ## RELEASE (R22) -/

theorem Record.rankless_iff (r : Record) :
    r.rankless = true ↔ r.status = .unidentified ∧ r.rank = none := by
  unfold Record.rankless
  simp

/-- The rank goes to the first rankless record of the list. -/
theorem giveRank_append {rank : Nat} {r : Record} {xs ys : List Record}
    (hx : ∀ x ∈ xs, x.rankless = false) (hr : r.rankless = true) :
    giveRank rank (xs ++ r :: ys) = some (xs ++ { r with rank := some rank } :: ys) := by
  induction xs with
  | nil => simp [giveRank, hr]
  | cons x xs ih =>
    have hx0 := hx x List.mem_cons_self
    rw [List.cons_append, giveRank, hx0, ih fun y hy => hx y (List.mem_cons_of_mem _ hy)]
    rfl

theorem giveRank_none {rank : Nat} {xs : List Record} (hx : ∀ x ∈ xs, x.rankless = false) :
    giveRank rank xs = none := by
  induction xs with
  | nil => rfl
  | cons x xs ih =>
    rw [giveRank, hx x List.mem_cons_self, ih fun y hy => hx y (List.mem_cons_of_mem _ hy)]
    rfl

/-- The rank goes to the rearmost rankless record of a placed list (R22). -/
theorem giveRankRearmost_set {rank i : Nat} {rs : List Record} {r : Record} (hi : rs[i]? = some r)
    (hr : r.rankless = true) (hlast : ∀ x ∈ rs.drop (i + 1), x.rankless = false) :
    giveRankRearmost rank rs = some (rs.set i { r with rank := some rank }) := by
  obtain ⟨hlt, hget⟩ := List.getElem?_eq_some_iff.1 hi
  have hsplit : rs.reverse = (rs.drop (i + 1)).reverse ++ r :: (rs.take i).reverse := by
    conv_lhs => rw [← List.take_append_drop i rs, List.drop_eq_getElem_cons hlt, hget]
    simp
  rw [giveRankRearmost, hsplit, giveRank_append (fun x hx => hlast x (List.mem_reverse.1 hx)) hr,
    List.set_eq_take_append_cons_drop, if_pos hlt]
  simp

theorem giveRankRearmost_none {rank : Nat} {rs : List Record} (h : ∀ x ∈ rs, x.rankless = false) :
    giveRankRearmost rank rs = none := by
  rw [giveRankRearmost, giveRank_none fun x hx => h x (List.mem_reverse.1 hx)]
  rfl

theorem rankless_false {r : Record} (h : ¬ (r.status = .unidentified ∧ r.rank = none)) :
    r.rankless = false := by
  rw [Bool.eq_false_iff, ne_eq, r.rankless_iff]
  exact h

/-- Settles O28: the rearmost rankless record takes the rank, and with none, another rank or in WITHDRAWN the
command is refused. -/
theorem releaseOfALane : Obligations.ReleaseOfALane := by
  intro s n rank i hb l hl
  have hn := (LaneTable.lane?_some hl).2
  have hone : s.unmoved.laneCommand n (State.releaseOne rank) = s.unmoved.releaseOne rank l :=
    laneCommand_bay (s := s.unmoved) hb hl
  refine ⟨fun hw h1 h15 r hi hr hlast => ?_, fun h => ?_⟩
  · have hguard : ¬ (s.node = .withdrawn ∨ rank < 1 ∨ 15 < rank) := by
      rintro (h | h | h)
      · exact hw h
      · omega
      · omega
    have hgive := giveRankRearmost_set (rank := rank) hi (r.rankless_iff.2 hr)
      fun x hx => rankless_false (hlast x hx)
    have heff : s.unmoved.laneCommand n (State.releaseOne rank) =
        (((s.unmoved.updateLane n fun k =>
          { k with placed := l.placed.set i { r with rank := some rank } }).handRestart).handLane
            n).answer .taken := by
      rw [hone, State.releaseOne, if_neg hguard, hgive, hn]
    obtain ⟨t, ht, he⟩ := event_bay heff hb (.inl rfl)
    refine ⟨t, congrArg Host.Outcome.next ht, (congrArg State.table he.frame :),
      (congrArg State.out he.frame :), he.evaluator rfl rfl, he.copied rfl rfl rfl rfl, ?_⟩
    obtain ⟨htally, hdli⟩ := he.uncaused rfl
    have hf := he.frame
    rw [← htally, ← hdli] at hf
    refine (congrArg (fun v : State => { v with
      table := s.table, out := s.out, eval := s.eval, retained := s.retained
      handed := s.handed }) hf :).trans ?_
    cases s
    rfl
  · refine congrArg Host.Outcome.next (event_answered (hone.trans ?_))
    unfold State.releaseOne
    by_cases hguard : s.node = .withdrawn ∨ rank < 1 ∨ 15 < rank
    · exact if_pos hguard
    · rw [if_neg (by exact hguard)]
      have hnone : ∀ x ∈ l.placed, ¬ (x.status = .unidentified ∧ x.rank = none) := by
        rcases h with h | h | h | h
        · exact absurd (.inl h) hguard
        · exact absurd (.inr (.inl h)) hguard
        · exact absurd (.inr (.inr h)) hguard
        · exact h
      rw [giveRankRearmost_none fun x hx => rankless_false (hnone x hx)]

/-! ## LASH CONFIRM and the lash timer (R132, R133) -/

theorem confirmed_eq (r : Record) :
    r.confirmed = if r.status = .lashing ∨ r.status = .unlashed then
      { r with status := .lashed, lashDue := none } else r := by
  unfold Record.confirmed
  cases h : r.status <;> simp

theorem confirmed_status_ne (r : Record) :
    r.confirmed.status ≠ r.status ↔ r.status = .lashing ∨ r.status = .unlashed := by
  rw [confirmed_eq]
  split
  · rename_i h
    rcases h with h | h <;> simp [h]
  · rename_i h
    simpa using h

theorem unlash_eq (b : Nat) (r : Record) :
    r.unlash b = if r.booking = some b ∧ r.status = .lashing ∧ r.lashDue ≠ none then
      { r with status := .unlashed, lashDue := none } else r := by
  unfold Record.unlash Record.lashRuns
  by_cases h : r.booking = some b ∧ r.status = .lashing ∧ r.lashDue ≠ none
  · rw [if_pos h, if_pos]
    simpa [Option.isSome_iff_ne_none, and_assoc] using h
  · rw [if_neg h, if_neg]
    simpa [Option.isSome_iff_ne_none, and_assoc] using h

/-- Settles O29: the records of the lane change with their timers, the condition with them, and the copy where
a status did. -/
theorem lashingConfirmedOrOver : Obligations.LashingConfirmedOrOver := by
  refine ⟨fun s n hb _ l hl => ?_, fun s b hb => ⟨fun l hl r hr due hdue => ?_, fun hnone => ?_⟩⟩
  · have hn := (LaneTable.lane?_some hl).2
    have hmap : (s.table.updateLane n fun k => { k with placed := k.placed.map Record.confirmed }) =
        { s.table with
          lanes := s.table.lanes.map fun k =>
            if k.number = n then
              { k with
                placed := k.placed.map fun r =>
                  if r.status = .lashing ∨ r.status = .unlashed then
                    { r with status := .lashed, lashDue := none }
                  else r }
            else k } := by
      rw [show Record.confirmed = _ from funext confirmed_eq]
      rfl
    rw [← hmap]
    have hone : s.unmoved.laneCommand n State.confirmOne = s.unmoved.confirmOne l :=
      laneCommand_bay (s := s.unmoved) hb hl
    obtain ⟨ns, hns⟩ : ∃ ns, ns =
      (if ∃ r ∈ l.placed, r.status = .lashing ∨ r.status = .unlashed then [n] else []) := ⟨_, rfl⟩
    have heff : s.unmoved.laneCommand n State.confirmOne =
        (((s.unmoved.updateLane n fun k => { k with placed := k.placed.map Record.confirmed }).clear
          .lashUnconfirmed (some n)).setHanded { HandedOn.clear with lanes := ns }).answer .taken := by
      rw [hone, State.confirmOne, hn, hns]
      have hany : (l.placed.any fun r => decide (r.confirmed.status ≠ r.status)) = true ↔
          ∃ r ∈ l.placed, r.status = .lashing ∨ r.status = .unlashed := by
        simp only [List.any_eq_true, decide_eq_true_iff, confirmed_status_ne]
      by_cases h : ∃ r ∈ l.placed, r.status = .lashing ∨ r.status = .unlashed
      · rw [if_pos (hany.2 h), if_pos h]
        rfl
      · rw [if_neg fun k => h (hany.1 k), if_neg h]
        rfl
    obtain ⟨t, ht, he⟩ := event_bay heff hb (.inl rfl)
    rw [← hns]
    refine ⟨t, congrArg Host.Outcome.next ht, (congrArg State.table he.frame :),
      (congrArg State.conditions he.frame :), (congrArg State.out he.frame :),
      he.copied rfl rfl rfl rfl, ?_⟩
    refine (congrArg (fun v : State => { v with
      table := s.table, conditions := s.conditions, out := s.out, retained := s.retained
      handed := s.handed }) (he.frame_quiet rfl rfl) :).trans ?_
    cases s
    rfl
  · have heff : (if s.unmoved.IsBay then s.unmoved.takeLashExpiry b else s.unmoved) =
        ((((s.unmoved.reach due).updateLane l.number fun k =>
          { k with placed := k.placed.map (Record.unlash b) }).raise
            .lashUnconfirmed (some l.number)).handLane l.number) := by
      rw [if_pos hb, State.takeLashExpiry, show s.unmoved.table.lanes.find?
        (fun l => l.placed.any (Record.lashRuns b)) = some l from hl]
      dsimp only
      rw [hr]
      dsimp only
      rw [hdue]
    obtain ⟨t, ht, he⟩ := event_bay (f := fun u => if u.IsBay then u.takeLashExpiry b else u)
      heff hb (.inl rfl)
    have hnow : t.now = max s.now due := (congrArg State.now he.frame :)
    refine ⟨t, congrArg Host.Outcome.next ht, hnow, ?_, ?_, he.copied rfl rfl rfl rfl, ?_⟩
    · have ht' : t.table = s.table.updateLane l.number fun k =>
          { k with placed := k.placed.map (Record.unlash b) } := (congrArg State.table he.frame :)
      rw [ht', show Record.unlash b = _ from funext (unlash_eq b)]
      rfl
    · rw [hnow]
      exact (congrArg State.conditions he.frame :)
    · refine (congrArg (fun v : State => { v with
        now := s.now, table := s.table, conditions := s.conditions
        retained := s.retained, handed := s.handed }) (he.frame_quiet rfl rfl) :).trans ?_
      cases s
      rfl
  · refine congrArg Host.Outcome.next (event_unmoved ((if_pos hb).trans ?_))
    have hfind : s.table.lanes.find? (fun l => l.placed.any (Record.lashRuns b)) = none := by
      simp only [List.find?_eq_none, List.any_eq_true, not_exists, not_and]
      intro l hl r hr hruns
      unfold Record.lashRuns at hruns
      simp only [Bool.and_eq_true, decide_eq_true_iff] at hruns
      obtain ⟨⟨hbk, hst⟩, hdue⟩ := hruns
      rw [hnone l hl r hr hbk hst] at hdue
      exact Bool.noConfusion hdue
    rw [State.takeLashExpiry, show s.unmoved.table.lanes.find?
      (fun l => l.placed.any (Record.lashRuns b)) = none from hfind]

end Sys2Proof.Machine
end

section
/-! PROOFS. Messages of the sensor line: inconsistencies, FAULT, CLEAR and LEAVE (O47, O48, O49). -/

namespace Sys2Proof.Machine

open Sys2Proof

variable {s w t : State}

/-! ## Frames handed in, and the end of an event in one word -/

/-- A frame handed in leaves the DLI and its report of drops (R151, R152, R160). -/
theorem handIn_eq (p : Payload) (s : State) :
    s.handIn p = (s.setDli (s.dli.taking s.tally.callNumber p)).handDrops
      (s.dli.dropsOf s.tally.callNumber p) := by
  unfold Dli.taking Dli.dropsOf
  rcases s.handIn_cases p with ⟨hl, h⟩ | ⟨hl, h⟩ <;> rw [h, hl]
  rfl

/-- The end of an event, as EventEnds says it, from what was handed on. -/
theorem BayEnds.eventEnds {H : HandedOn} {again caused : Bool} {lanes : List Nat}
    (h : BayEnds (w.setHanded H) t) (hr : H.restart = again ∨ w.eval.inFlight = none)
    (ha : H.tally = caused) (hl : H.lanes = lanes) (hi : H.inbound = false) (hn : H.node = false)
    (hret : w.retained = s.retained) : EventEnds again caused lanes s w t := by
  refine ⟨?_, ?_, h.copied hret hl hi ?_, ?_⟩
  · rcases hr with hr | hidle
    · exact h.evaluator hr rfl
    · obtain ⟨hf, hk⟩ := h.eval
      have hnone : t.eval.inFlight = none := by
        by_cases hh : (w.setHanded H).handed.restart = true
        · rw [if_pos hh] at hf
          exact hf.trans (congrArg _ hidle)
        · rw [if_neg hh] at hf
          exact hf.trans hidle
      refine ⟨?_, hk⟩
      by_cases hg : again = true
      · rw [if_pos hg, Restarted, hnone, hidle]
        rfl
      · rw [if_neg hg, hnone, hidle]
  · subst ha
    by_cases hc : H.tally = true
    · rw [if_pos hc]
      exact ⟨h.caused hc rfl rfl rfl rfl,
        h.sums (Int.add_zero _).symm (Int.add_zero _).symm rfl rfl⟩
    · rw [if_neg hc]
      exact h.uncaused (Bool.eq_false_iff.2 hc)
  · subst ha
    rw [← Bool.false_or (H.tally && _), ← hn]
    rfl
  · exact (congrArg (fun v : State => { v with handed := w.handed }) h.frame :)

/-! ## Inconsistencies (R172, R175, R182) -/

theorem State.foundInconsistent_setHanded (n : Nat) (H : HandedOn) (s : State) :
    (s.setHanded H).foundInconsistent n = (s.foundInconsistent n).setHanded H := by
  have hnode : (s.setHanded H).node = s.node := rfl
  unfold State.foundInconsistent
  rw [hnode]
  cases s.node <;> rfl

theorem State.foundInconsistent_retained (n : Nat) (s : State) :
    (s.foundInconsistent n).retained = s.retained := by
  unfold State.foundInconsistent
  cases s.node <;> rfl

theorem foundInconsistent_rounds (n : Nat) (s : State) :
    (s.foundInconsistent n).rounds = s.rounds := by
  unfold State.foundInconsistent
  cases s.node <;> rfl

theorem foundInconsistent_isBay (n : Nat) (hb : s.IsBay) : (s.foundInconsistent n).IsBay := by
  obtain ⟨⟨hlife, hnode⟩, hrole⟩ := hb
  unfold State.foundInconsistent
  split
  · exact ⟨⟨hlife, hnode⟩, hrole⟩
  · exact ⟨⟨hlife, NodeState.noConfusion⟩, hrole⟩
  · exact ⟨⟨hlife, NodeState.noConfusion⟩, hrole⟩
  · exact ⟨⟨hlife, hnode⟩, hrole⟩
  · exact ⟨⟨hlife, hnode⟩, hrole⟩

/-- A bay without an outstanding survey requests one (R172). -/
theorem requestSurvey_eq (s : State) :
    s.requestSurvey =
      (s.setSensor (if s.sensor.surveyDue = none then
        { s.sensor with surveyDue := some (s.now + Config.surveyTime), replied := [] } else s.sensor)).setOut
          (if s.sensor.surveyDue = none then { s.out with surveys := s.out.surveys + 1 } else s.out) := by
  unfold State.requestSurvey
  split
  · rename_i h
    rw [h, if_neg (Option.some_ne_none _), if_neg (Option.some_ne_none _)]
    rfl
  · rename_i h
    rw [h, if_pos rfl, if_pos rfl]

theorem foundInconsistent_listen (n : Nat) (h : s.node = .listen) :
    s.foundInconsistent n = { s with sensor := { s.sensor with
      replied := s.sensor.replied.filter fun k => decide (k ≠ n) } } := by
  unfold State.foundInconsistent
  split
  · rfl
  all_goals exact absurd (h.symm.trans ‹_›) NodeState.noConfusion

theorem foundInconsistent_active (n : Nat) (h : s.node = .active) :
    s.foundInconsistent n = { s with
      node := .recovery, eval := { s.eval with inFlight := none, callQueue := [] }
      table := { s.table with reservations := [] }
      dli := s.dli.offersOut (s.table.reservations.map (·.round))
      sensor := if s.sensor.surveyDue = none then
        { s.sensor with surveyDue := some (s.now + Config.surveyTime), replied := [] } else s.sensor
      out := if s.sensor.surveyDue = none then { s.out with surveys := s.out.surveys + 1 } else s.out } := by
  unfold State.foundInconsistent
  split
  · exact absurd (h.symm.trans ‹_›) NodeState.noConfusion
  · rfl
  all_goals exact absurd (h.symm.trans ‹_›) NodeState.noConfusion

theorem foundInconsistent_recovery (n : Nat) (h : s.node = .recovery) :
    s.foundInconsistent n = { s with
      node := .withdrawn, sensor := { s.sensor with surveyDue := none }
      conditions := raiseCondition s.now .withdrawn none s.conditions
      dli := s.dli.taking s.tally.callNumber .noticeWithdrawn } := by
  unfold State.foundInconsistent
  split
  · exact absurd (h.symm.trans ‹_›) NodeState.noConfusion
  · exact absurd (h.symm.trans ‹_›) NodeState.noConfusion
  · rfl
  all_goals exact absurd (h.symm.trans ‹_›) NodeState.noConfusion

/-- The passage to RECOVERY (R77, R172). -/
theorem State.enterRecovery_eq (n : Nat) (h : s.node = .active) :
    s.enterRecovery = (s.foundInconsistent n).setHanded
      { s.handed with restart := s.handed.restart || !s.table.reservations.isEmpty, tally := true } := by
  rw [foundInconsistent_active n h]
  unfold State.enterRecovery
  rw [releaseAll_eq, requestSurvey_eq]
  rfl

/-- The passage to WITHDRAWN (R175). -/
theorem State.withdraw_eq (s : State) :
    ∃ ds, s.withdraw = State.setHanded
      { s with
        node := .withdrawn, sensor := { s.sensor with surveyDue := none }
        conditions := raiseCondition s.now .withdrawn none s.conditions
        dli := s.dli.taking s.tally.callNumber .noticeWithdrawn }
      { s.handed with tally := true, drops := ds } := by
  unfold State.withdraw
  rw [handIn_eq]
  exact ⟨_, rfl⟩

/-- An inconsistency is what it makes of the state, and a cause of a TALLY but in LISTEN; a bay that gives up
its reservations has no evaluation left to restart. -/
theorem inconsistency_eq (n : Nat) (hn : s.node ≠ .withdrawn) (hu : s.node ≠ .unconfigured) :
    ∃ H, s.inconsistency n = (s.foundInconsistent n).setHanded H ∧ H.lanes = s.handed.lanes ∧
      H.inbound = s.handed.inbound ∧ H.node = s.handed.node ∧
      H.tally = (s.handed.tally || decide (s.node ≠ .listen)) ∧
      (H.restart = s.handed.restart ∨ (s.foundInconsistent n).eval.inFlight = none) := by
  unfold State.inconsistency
  split
  · rename_i h
    refine ⟨s.handed, ?_, rfl, rfl, rfl, by simp [h], .inl rfl⟩
    rw [foundInconsistent_listen n h]
    rfl
  · rename_i h
    refine ⟨_, s.enterRecovery_eq n h, rfl, rfl, rfl, by simp [h], .inr ?_⟩
    rw [foundInconsistent_active n h]
  · rename_i h
    obtain ⟨ds, hw⟩ := s.withdraw_eq
    refine ⟨{ s.handed with tally := true, drops := ds }, ?_, rfl, rfl, rfl, by simp [h], .inl rfl⟩
    rw [foundInconsistent_recovery n h, hw]
  · exact absurd ‹_› hn
  · exact absurd ‹_› hu

theorem sensorMessage_taken {agrees : Bool} {take : State → State} (hb : s.IsBay)
    (ha : agrees = true) : s.sensorMessage agrees take = take s := if_pos ⟨hb, ha⟩

theorem Lane.enterConsistent_iff (m : Int) (l : Lane) :
    l.enterConsistent m = true ↔
      l.placed.length < Config.maxPlaced ∧ m ≤ l.conf.length ∧ Config.minInferred ≤ m - l.used := by
  unfold Lane.enterConsistent
  simp [and_assoc]

/-- An ENTER or LEAVE that the stowage does not allow acts as an inconsistency of its lane (R120, R134). -/
theorem exec_inconsistent {c : Instr} {n : Nat} (hb : s.IsBay) (hn : s.node ≠ .withdrawn)
    (h : s.Inconsistent n c) :
    ∃ f, exec c s = .next (s.event f) ∧ f s.unmoved = s.unmoved.inconsistency n := by
  induction c with
  | enter lane m check =>
    obtain ⟨ha, rfl, hl⟩ := h
    refine ⟨_, rfl, (sensorMessage_taken (s := s.unmoved) hb ha).trans ((if_neg hn).trans ?_)⟩
    unfold State.takeEnter
    cases hk : s.table.lane? lane.toNat with
    | none => rfl
    | some l =>
      refine if_neg fun hc => ?_
      obtain ⟨h1, h2, h3⟩ := (l.enterConsistent_iff _).1 hc
      rcases hl l hk with h | h | h <;> omega
  | leave lane m check =>
    obtain ⟨ha, rfl, hl⟩ := h
    refine ⟨_, rfl, (sensorMessage_taken (s := s.unmoved) hb ha).trans ((if_neg hn).trans ?_)⟩
    unfold State.takeLeave
    cases hk : s.table.lane? lane.toNat with
    | none => rfl
    | some l =>
      have ht : l.tail? = none := by rw [Lane.tail?, hl l hk]; rfl
      dsimp only
      rw [ht]
  | _ => exact h.elim

/-- The event of an inconsistency ends as what it makes of the state. -/
theorem event_inconsistent {f : State → State} {n : Nat} (hb : s.IsBay) (hr : s.RoleApart)
    (hn : s.node ≠ .withdrawn) (hf : f s.unmoved = s.unmoved.inconsistency n) :
    ∃ t, s.event f = t ∧
      EventEnds false (decide (s.node ≠ .listen)) [] s (s.foundInconsistent n) t := by
  obtain ⟨H, hi, hlanes, hinb, hnode, htally, hrestart⟩ :=
    inconsistency_eq (s := s.unmoved) n hn hb.1.2
  have hw : f s.unmoved = (s.foundInconsistent n).setHanded H := by
    rw [hf, hi, show s.unmoved.foundInconsistent n = (s.foundInconsistent n).setHanded HandedOn.clear
      from s.foundInconsistent_setHanded n HandedOn.clear]
    rfl
  have hidle := hr.idle hb
  rw [← foundInconsistent_rounds n] at hidle
  obtain ⟨t, ht, he⟩ := event_bay hw (foundInconsistent_isBay n hb) (.inr hidle)
  have hfl : (s.unmoved.foundInconsistent n).eval = (s.foundInconsistent n).eval :=
    (congrArg State.eval (s.foundInconsistent_setHanded n HandedOn.clear) :)
  refine ⟨t, ht, he.eventEnds (hrestart.imp id fun h => ?_) htally hlanes hinb hnode
    (s.foundInconsistent_retained n)⟩
  rw [← hfl]
  exact h

/-- What an event leaves of the evaluator when it ends in IDLE. -/
theorem EventEnds.idle {again caused : Bool} {lanes : List Nat} (h : EventEnds again caused lanes s w t)
    (hi : w.eval.inFlight = none) : t.eval = w.eval := by
  obtain ⟨⟨hf, hk⟩, -⟩ := h
  have hnone : t.eval.inFlight = w.eval.inFlight := by
    by_cases hg : again = true
    · rw [if_pos hg] at hf
      rw [hf, hi]
      rfl
    · rwa [if_neg hg] at hf
  rw [← hk, ← hnone]

/-- Settles O47, by what an inconsistency makes of each node state. -/
theorem inconsistentEvent : Obligations.InconsistentEvent := by
  intro s c n hb
  refine ⟨fun hr hi hn => ?_, fun hr hi hn => ?_, fun hr hi hn => ?_, fun hv hn => ?_⟩
  · obtain ⟨f, hx, hf⟩ := exec_inconsistent hb (by rw [hn]; exact NodeState.noConfusion) hi
    rw [hx]
    have he : f s.unmoved = s.unmoved.unreply n := by
      rw [hf, State.inconsistency, show s.unmoved.node = .listen from hn]
    exact congrArg Host.Outcome.next
      ((State.event_of_clear (congrArg State.handed he :)).trans he)
  · have hw : s.node ≠ .withdrawn := by rw [hn]; exact NodeState.noConfusion
    obtain ⟨f, hx, hf⟩ := exec_inconsistent hb hw hi
    obtain ⟨t, ht, he⟩ := event_inconsistent hb hr hw hf
    rw [hx, ht]
    have hcaused : decide (s.node ≠ .listen) = true := by rw [hn]; rfl
    rw [hcaused, foundInconsistent_active n hn] at he
    have heval := EventEnds.idle he rfl
    obtain ⟨-, hc, hcop, hframe⟩ := he
    obtain ⟨hcaused, hsums⟩ := (if_pos rfl).mp hc
    rw [← heval] at hframe
    refine ⟨t, rfl, (congrArg State.node hframe :), heval, (congrArg State.table hframe :),
      (congrArg State.sensor hframe :), (congrArg State.out hframe :),
      ⟨hcaused.before rfl rfl rfl, hsums, hcop⟩, ?_⟩
    refine (congrArg (fun v : State => { v with
      node := s.node, eval := s.eval, table := s.table, sensor := s.sensor, out := s.out
      tally := s.tally, dli := s.dli, retained := s.retained, handed := s.handed }) hframe :).trans ?_
    cases s
    rfl
  · have hw : s.node ≠ .withdrawn := by rw [hn]; exact NodeState.noConfusion
    obtain ⟨f, hx, hf⟩ := exec_inconsistent hb hw hi
    obtain ⟨t, ht, he⟩ := event_inconsistent hb hr hw hf
    rw [hx, ht]
    have hcaused : decide (s.node ≠ .listen) = true := by rw [hn]; rfl
    rw [hcaused, foundInconsistent_recovery n hn] at he
    obtain ⟨⟨hf, hk⟩, hc, hcop, hframe⟩ := he
    have heval : t.eval = s.eval := by
      rw [← hk]
      have : t.eval.inFlight = s.eval.inFlight := hf
      rw [← this]
    obtain ⟨hcaused, hsums⟩ := (if_pos rfl).mp hc
    refine ⟨t, rfl, (congrArg State.node hframe :), (congrArg State.sensor hframe :),
      (congrArg State.conditions hframe :), ⟨hcaused.before rfl rfl rfl, hsums, hcop⟩, ?_⟩
    have hframe' : { t with tally := _, dli := _, retained := _, handed := _ } = _ :=
      Eq.trans (by rw [heval]) hframe
    refine (congrArg (fun v : State => { v with
      node := s.node, sensor := s.sensor, conditions := s.conditions, tally := s.tally
      dli := s.dli, retained := s.retained, handed := s.handed }) hframe' :).trans ?_
    cases s
    rfl
  · induction c with
    | enter lane m check =>
      have he : s.unmoved.sensorMessage (sensorAgrees 1 lane m check)
          (State.unlessWithdrawn (State.takeEnter lane.toNat (m.toNat : Int))) = s.unmoved.withhold :=
        (sensorMessage_taken (s := s.unmoved) hb hv).trans (if_pos hn)
      exact congrArg Host.Outcome.next
        ((State.event_of_clear (congrArg State.handed he :)).trans he)
    | leave lane m check =>
      have he : s.unmoved.sensorMessage (sensorAgrees 2 lane m check)
          (State.unlessWithdrawn (State.takeLeave lane.toNat (m.toNat : Int))) = s.unmoved.withhold :=
        (sensorMessage_taken (s := s.unmoved) hb hv).trans (if_pos hn)
      exact congrArg Host.Outcome.next
        ((State.event_of_clear (congrArg State.handed he :)).trans he)
    | _ => exact absurd hv Bool.false_ne_true

/-! ## FAULT and CLEAR (R171) -/

/-- A sensor line message that agrees with its check word is taken at a bay. -/
theorem messageAgrees_of {row : List Byte} {k : RxCheck} (h : k = { word := checkWord row }) :
    messageAgrees row k = true := (messageAgrees_iff row k).2 h

/-- FAULT marks the lane found when it is OPEN or CLOSED (R3, R171). -/
theorem takeFault_eq (n : Nat) (hd : s.table.Distinct) :
    s.takeFault n = s.setTable { s.table with
      lanes := s.table.lanes.map fun k =>
        if k.number = n ∧ (k.stored = .opened ∨ k.stored = .closed) then
          { k with suspect := true }
        else k } := by
  have hmap : (s.table.updateLane n fun k =>
      if k.stored = .opened ∨ k.stored = .closed then k.withMark else k) = { s.table with
        lanes := s.table.lanes.map fun k =>
          if k.number = n ∧ (k.stored = .opened ∨ k.stored = .closed) then
            { k with suspect := true }
          else k } :=
    congrArg (fun ls => { s.table with lanes := ls })
      (List.map_congr_left fun k _ => by simp only [ite_and]; rfl)
  rw [← hmap]
  unfold State.takeFault
  cases hl : s.table.lane? n with
  | none =>
    rw [updateLane_same hd fun l h => absurd (hl.symm.trans h) nofun]
    rfl
  | some l =>
    have upd (hs : l.stored = .opened ∨ l.stored = .closed) :
        s.table.updateLane n Lane.withMark = s.table.updateLane n fun k =>
          if k.stored = .opened ∨ k.stored = .closed then k.withMark else k :=
      updateLane_congr hd hl (if_pos hs).symm
    dsimp only
    split
    · rename_i hs; rw [← upd (.inl hs)]; rfl
    · rename_i hs; rw [← upd (.inr hs)]; rfl
    · rename_i r hs
      have hneg : ¬ (l.stored = .opened ∨ l.stored = .closed) := by rw [hs]; simp
      rw [updateLane_same hd fun k h => by
        obtain rfl := Option.some.inj (h.symm.trans hl)
        exact if_neg hneg]
      rfl

/-- CLEAR on a lane in FAULT returns it to the state it remembers (R2, R171). -/
theorem takeClear_fault {n : Nat} {l : Lane} {r : OpenClosed} (hl : s.table.lane? n = some l)
    (hs : l.stored = .fault r) :
    s.takeClear n = ((s.updateLane n Lane.withoutMark).changeStored n (OpenClosed.asStored r)).clear
      .laneFault (some n) := by
  rw [State.takeClear, hl]
  dsimp only
  rw [hs]
  rfl

/-- CLEAR on any other lane removes its mark alone (R3, R171). -/
theorem takeClear_other {n : Nat} (hd : s.table.Distinct)
    (hl : ∀ l, s.table.lane? n = some l → l.stored = .opened ∨ l.stored = .closed) :
    s.takeClear n = s.updateLane n Lane.withoutMark := by
  unfold State.takeClear
  cases hk : s.table.lane? n with
  | none =>
    have hsame : s.table.updateLane n Lane.withoutMark = s.table :=
      updateLane_same hd fun l h => absurd (hk.symm.trans h) nofun
    exact congrArg s.setTable hsame.symm
  | some l =>
    rcases hl l hk with hs | hs
    all_goals
      dsimp only
      rw [hs]

/-- The event of a CLEAR on a lane in FAULT. -/
theorem exec_sensorClear_fault {lane : Byte} {check : RxCheck} {l : Lane} {r : OpenClosed}
    (hb : s.IsBay) (hk : check = { word := checkWord [4, lane] })
    (hl : s.table.lane? lane.toNat = some l) (hs : l.stored = .fault r) :
    ∃ t, exec (.sensorClear lane check) s = .next t ∧
      t.table = { s.table with
        lanes := s.table.lanes.map fun k =>
          if k.number = lane.toNat then
            { k with suspect := false, stored := OpenClosed.asStored r } else k } ∧
      t.conditions = s.conditions.eraseP (fun c =>
        decide (c.code = .laneFault) && decide (c.lane = some lane.toNat)) ∧
      TallyCaused s.dli s t ∧ SumsMoved 0 0 s t ∧
      Copied [lane.toNat] false (s.buildsNow s.dli) s t ∧
      { t with
        table := s.table, conditions := s.conditions, tally := s.tally, dli := s.dli
        retained := s.retained, handed := s.handed } = s := by
  have hw : s.unmoved.sensorMessage (sensorLaneAgrees 4 lane check) (State.takeClear lane.toNat) =
      { s with
        table := (s.table.updateLane lane.toNat Lane.withoutMark).updateLane lane.toNat
          (Lane.withStored (OpenClosed.asStored r))
        conditions := s.conditions.eraseP (Condition.isFor .laneFault (some lane.toNat))
        handed := { HandedOn.clear with tally := true, lanes := [lane.toNat] } } := by
    refine (sensorMessage_taken (s := s.unmoved) hb (messageAgrees_of hk)).trans
      ((takeClear_fault (s := s.unmoved) hl hs).trans ?_)
    cases s
    rfl
  obtain ⟨t, ht, he⟩ := event_bay hw hb (.inl rfl)
  refine ⟨t, congrArg Host.Outcome.next ht, ?_, (congrArg State.conditions he.frame :),
    he.caused rfl rfl rfl rfl rfl, he.sums (Int.add_zero _).symm (Int.add_zero _).symm rfl rfl,
    he.copied rfl rfl rfl rfl, ?_⟩
  · exact (congrArg State.table he.frame :).trans
      (updateLane_updateLane (f := Lane.withoutMark) (fun _ => rfl) s.table)
  · refine (congrArg (fun v : State => { v with
      table := s.table, conditions := s.conditions, tally := s.tally, dli := s.dli
      retained := s.retained, handed := s.handed }) (he.frame_still rfl) :).trans ?_
    cases s
    rfl

/-- Settles O49: only the lane found can change, and a lane in FAULT returns to the state it remembers. -/
theorem laneFaultAndClear : Obligations.LaneFaultAndClear := by
  intro s lane check hb _ hd
  refine ⟨fun hk => ?_, fun hk => ⟨fun l hl st hst => ?_, fun hl => ?_⟩⟩
  · have he := (sensorMessage_taken (s := s.unmoved) (agrees := sensorLaneAgrees 3 lane check)
      (take := State.takeFault lane.toNat) hb (messageAgrees_of hk)).trans
        (takeFault_eq (s := s.unmoved) lane.toNat hd)
    exact congrArg Host.Outcome.next
      ((State.event_of_clear (congrArg State.handed he :)).trans he)
  · obtain ⟨r, hs, rfl⟩ : ∃ r, l.stored = .fault r ∧ OpenClosed.asStored r = st := by
      cases hs : l.stored with
      | opened => rw [hs] at hst; exact absurd hst nofun
      | closed => rw [hs] at hst; exact absurd hst nofun
      | fault r =>
        rw [hs] at hst
        cases r <;> exact ⟨_, rfl, Option.some.inj hst⟩
    exact exec_sensorClear_fault hb hk hl hs
  · have he := (sensorMessage_taken (s := s.unmoved) (agrees := sensorLaneAgrees 4 lane check)
      (take := State.takeClear lane.toNat) hb (messageAgrees_of hk)).trans
        (takeClear_other (s := s.unmoved) hd hl)
    exact congrArg Host.Outcome.next
      ((State.event_of_clear (congrArg State.handed he :)).trans he)

end Sys2Proof.Machine
end

section
/-! PROOFS. LEAVE at a bay (O48). -/

namespace Sys2Proof.Machine

open Sys2Proof

variable {s w t : State}

/-- Lengths within the tolerance differ by no more than it (R122, R136). -/
theorem within_iff (tolerance a b : Int) :
    within tolerance a b = true ↔ ((a - b).natAbs : Int) ≤ tolerance := by
  unfold within
  simp only [Bool.and_eq_true, decide_eq_true_iff]
  omega

/-- The bay after the physical tail of a lane has left it (R9, R10, R49, R134, R135). -/
def State.departed (l : Lane) (r : Record) (s : State) : State :=
  { s with
    table := s.table.updateLane l.number (Lane.removeTail s.conf.gap r)
    tally := { s.tally with
      ownT := s.tally.ownT - r.mT l.conf, ownL := s.tally.ownL - r.mL l.conf }
    conditions := if r.leavesEarly = true then
      raiseCondition s.now .earlyRemoval (some l.number) s.conditions else s.conditions }

/-- The expected length of a lane whose tail has left (R136). -/
theorem expected_removeTail {l : Lane} {r : Record} (gap : Int) (hr : l.placed.getLast? = some r) :
    (Lane.removeTail gap r l).expected gap =
      if l.placed.length = 1 then 0 else l.used - (r.length + gap) - gap := by
  have hne : l.placed ≠ [] := by
    rintro h
    rw [h] at hr
    exact nomatch hr
  have hlen := List.length_pos_iff.2 hne
  unfold Lane.expected Lane.removeTail
  by_cases h : l.placed.length = 1
  · rw [if_pos h, if_pos]
    rw [List.isEmpty_iff_length_eq_zero, List.length_dropLast]
    omega
  · rw [if_neg h, if_neg]
    · rfl
    · rw [List.isEmpty_iff_length_eq_zero, List.length_dropLast]
      omega

/-- A LEAVE that finds a tail removes it, and is an inconsistency when the post-check fails (R134 to R136). -/
theorem takeLeave_eq {n : Nat} {m : Int} {l : Lane} {r : Record}
    (hl : s.table.lane? n = some l) (hr : l.placed.getLast? = some r) :
    s.takeLeave n m =
      let w := (s.departed l r).setHanded (s.handed.vehicle l.number)
      if (Lane.removeTail s.conf.gap r l).postCheck s.conf.gap s.conf.tolerance m = true then w
      else w.inconsistency l.number := by
  have hw : (if r.leavesEarly = true then (s.removeRecord l r).raise .earlyRemoval (some l.number)
      else s.removeRecord l r) = (s.departed l r).setHanded (s.handed.vehicle l.number) := by
    rw [removeRecord_eq]
    unfold State.departed
    cases s
    split <;> rfl
  unfold State.takeLeave
  rw [hl]
  dsimp only
  rw [show l.tail? = some r from hr]
  dsimp only
  unfold State.applyLeave
  dsimp only
  rw [hw]
  rfl

/-- The event of a LEAVE that finds a tail. -/
theorem exec_leave_ends {lane : Byte} {m : Word16} {check : RxCheck} {l : Lane} {r : Record}
    (hb : s.IsBay) (hn : s.node ≠ .withdrawn) (hro : s.RoleApart)
    (hk : check = { word := checkWord ([2, lane] ++ bytes2 m) })
    (hl : s.table.lane? lane.toNat = some l) (hr : l.placed.getLast? = some r) :
    ∃ t, exec (.leave lane m check) s = .next t ∧
      EventEnds true true [l.number] s
        (if (Lane.removeTail s.conf.gap r l).postCheck s.conf.gap s.conf.tolerance m.toNat = true
          then s.departed l r else (s.departed l r).foundInconsistent l.number) t := by
  obtain ⟨v, hv⟩ : ∃ v, v = s.departed l r := ⟨_, rfl⟩
  have hvb : v.IsBay := by subst hv; exact ⟨⟨hb.1.1, hb.1.2⟩, hb.2⟩
  have hvn : v.node ≠ .withdrawn := by subst hv; exact hn
  have hvi : v.rounds.openRound = none ∧ v.rounds.dispatched = [] := by subst hv; exact hro.idle hb
  have hret : v.retained = s.retained := by subst hv; rfl
  have hdep : s.unmoved.departed l r = v.setHanded HandedOn.clear := by subst hv; rfl
  have hf := (sensorMessage_taken (s := s.unmoved) (agrees := sensorAgrees 2 lane m check)
    (take := State.unlessWithdrawn (State.takeLeave lane.toNat (m.toNat : Int))) hb
      (messageAgrees_of hk)).trans ((if_neg hn).trans (takeLeave_eq (s := s.unmoved) hl hr))
  rw [hdep] at hf
  rw [← hv]
  by_cases hp : (Lane.removeTail s.conf.gap r l).postCheck s.conf.gap s.conf.tolerance m.toNat = true
  · rw [if_pos hp]
    have hw := hf.trans (if_pos hp)
    obtain ⟨t, ht, he⟩ := event_bay (w := v.setHanded (HandedOn.clear.vehicle l.number)) hw
      hvb (.inl rfl)
    exact ⟨t, congrArg Host.Outcome.next ht, he.eventEnds (.inl rfl) rfl rfl rfl rfl hret⟩
  · rw [if_neg hp]
    have hw := hf.trans (if_neg hp)
    obtain ⟨H, hi, hlanes, hinb, hnode, htally, hrestart⟩ :=
      inconsistency_eq (s := v.setHanded (HandedOn.clear.vehicle l.number)) l.number hvn hvb.1.2
    rw [State.foundInconsistent_setHanded] at hi hrestart
    have hw := hw.trans hi
    rw [← foundInconsistent_rounds l.number] at hvi
    obtain ⟨t, ht, he⟩ := event_bay (w := (v.foundInconsistent l.number).setHanded H) hw
      (foundInconsistent_isBay l.number hvb) (.inr hvi)
    exact ⟨t, congrArg Host.Outcome.next ht, he.eventEnds hrestart htally hlanes hinb hnode
      ((v.foundInconsistent_retained l.number).trans hret)⟩

/-- Settles O48, by the removal of the tail and the inconsistency that a failed post-check is. -/
theorem leaveOfTheTail : Obligations.LeaveOfTheTail := by
  intro s lane m check hb hn hro _ hk l hl r hr
  obtain ⟨t, ht, he⟩ := exec_leave_ends hb hn hro hk hl hr
  refine ⟨t, ht, ?_⟩
  have hnum := (LaneTable.lane?_some hl).2
  have hearly : r.leavesEarly = (decide (r.status = .unidentified) || r.rank.any fun k => decide (k ≠ 0)) := by
    unfold Record.leavesEarly
    cases r.rank <;> rfl
  have hpost : (Lane.removeTail s.conf.gap r l).postCheck s.conf.gap s.conf.tolerance m.toNat = true ↔
      (((m.toNat : Int) - if l.placed.length = 1 then 0
        else l.used - (r.length + s.conf.gap) - s.conf.gap).natAbs : Int) ≤ s.conf.tolerance := by
    rw [Lane.postCheck, within_iff, expected_removeTail _ hr]
  simp only [hpost] at he
  unfold State.departed at he
  rw [hearly, hnum] at he
  dsimp only
  rw [hnum]
  exact he

end Sys2Proof.Machine
end

section
/-! PROOFS. How the event of a ramp ends: its drops reported, the look for a callable entry, and the node copy
written (R82, R83, R87, R152, R179). -/

namespace Sys2Proof.Machine

open Sys2Proof

variable {s w t : State}

/-! ## Drops reported -/

/-- The report of a drop returns an entry to the waiting queue, where R82 looks (R82, R110). -/
def State.returns (v : State) (d : Drop) : Bool :=
  match d with
  | .call _ => false
  | .award r bay =>
    v.rounds.dispatched.any (DispatchedEntry.isFor r bay) && decide (v.rounds.waiting.length < Config.maxWaiting)

theorem dropReported_setHanded (H : HandedOn) (d : Drop) (s : State) :
    (s.setHanded H).dropReported d = (s.dropReported d).setHanded H := by
  cases d with
  | call r => rfl
  | award r bay =>
    unfold State.dropReported
    dsimp only [State.setHanded_rounds]
    cases s.rounds.dispatched.find? fun e => decide (e.round = r) && decide (e.bay = bay) with
    | none => rfl
    | some e =>
      dsimp only
      by_cases hw : s.rounds.waiting.length < Config.maxWaiting
      · refine (if_pos hw).trans (Eq.trans ?_ (congrArg (fun v : State => v.setHanded H)
          (if_pos hw)).symm)
        rfl
      · refine (if_neg hw).trans (Eq.trans ?_ (congrArg (fun v : State => v.setHanded H)
          (if_neg hw)).symm)
        rfl

theorem foldl_dropReported_setHanded (H : HandedOn) (ds : List Drop) (s : State) :
    ds.foldl State.dropReported (s.setHanded H) = (ds.foldl State.dropReported s).setHanded H := by
  induction ds generalizing s with
  | nil => rfl
  | cons d ds ih => rw [List.foldl_cons, dropReported_setHanded, ih, List.foldl_cons]

/-- A report of drops touches the rounds and what is put out alone. -/
theorem reported_frame (ds : List Drop) (s : State) :
    ∃ R O, ds.foldl State.dropReported s = { s with rounds := R, out := O } := by
  induction ds generalizing s with
  | nil => exact ⟨s.rounds, s.out, rfl⟩
  | cons d ds ih =>
    have hone : ∃ R O, s.dropReported d = { s with rounds := R, out := O } := by
      cases d with
      | call r => exact ⟨_, _, rfl⟩
      | award r bay =>
        unfold State.dropReported
        dsimp only
        cases s.rounds.dispatched.find? fun e => decide (e.round = r) && decide (e.bay = bay) with
        | none => exact ⟨s.rounds, s.out, rfl⟩
        | some e =>
          dsimp only
          by_cases hw : s.rounds.waiting.length < Config.maxWaiting
          · exact ⟨_, _, if_pos hw⟩
          · exact ⟨_, _, if_neg hw⟩
    obtain ⟨R, O, h⟩ := hone
    obtain ⟨R', O', h'⟩ := ih { s with rounds := R, out := O }
    exact ⟨R', O', by rw [List.foldl_cons, h, h']⟩

/-- A drop is reported as R83 and R87 say, and asks for the look when an entry returns. -/
theorem settleDrop_eq (d : Drop) (s : State) :
    s.settleDrop d =
      (s.dropReported d).setHanded { s.handed with look := s.handed.look || s.returns d } := by
  cases d with
  | call r =>
    have hh : ({ s.handed with look := s.handed.look || s.returns (.call r) } : HandedOn) = s.handed := by
      rw [State.returns, Bool.or_false]
    rw [hh]
    unfold State.settleDrop State.startWindow State.dropReported
    dsimp only
    cases ho : s.rounds.openRound with
    | none =>
      dsimp only
      rw [Option.map_none, ← ho]
      rfl
    | some o =>
      dsimp only
      rw [Option.map_some]
      split
      · rfl
      · rw [← ho]
        rfl
  | award r bay =>
    unfold State.settleDrop State.cancelDispatched State.dropReported State.returns
    dsimp only
    cases hd : s.rounds.dispatched.find? (DispatchedEntry.isFor r bay) with
    | none =>
      have hany : s.rounds.dispatched.any (DispatchedEntry.isFor r bay) = false := by
        rw [List.any_eq_false]
        simpa using hd
      rw [show (s.rounds.dispatched.find? fun e => decide (e.round = r) && decide (e.bay = bay)) = none
        from hd, hany, Bool.false_and, Bool.or_false]
      rfl
    | some e =>
      have hany : s.rounds.dispatched.any (DispatchedEntry.isFor r bay) = true :=
        List.any_eq_true.2 ⟨e, List.mem_of_find?_eq_some hd, List.find?_some hd⟩
      rw [show (s.rounds.dispatched.find? fun e => decide (e.round = r) && decide (e.bay = bay)) = some e
        from hd, hany, Bool.true_and]
      dsimp only
      by_cases hw : s.rounds.waiting.length < Config.maxWaiting
      · rw [decide_eq_true hw, Bool.or_true]
        dsimp only [State.setRounds_rounds, State.dispose_rounds]
        refine (if_pos hw).trans (Eq.trans ?_ (congrArg (fun v : State => v.setHanded _)
          (if_pos hw)).symm)
        rfl
      · rw [decide_eq_false hw, Bool.or_false]
        dsimp only [State.setRounds_rounds, State.dispose_rounds]
        refine (if_neg hw).trans (Eq.trans ?_ (congrArg (fun v : State => v.setHanded _)
          (if_neg hw)).symm)
        rfl

/-- What the drops of an event have led to, and that the look is asked for where an entry returned. -/
theorem foldl_settleDrop_eq (ds : List Drop) (s : State) :
    ∃ look, ds.foldl State.settleDrop s =
        (ds.foldl State.dropReported s).setHanded { s.handed with look := look } ∧
      (s.handed.look = true → look = true) := by
  induction ds generalizing s with
  | nil => exact ⟨s.handed.look, rfl, id⟩
  | cons d ds ih =>
    obtain ⟨look, he, hl⟩ := ih (s.settleDrop d)
    rw [settleDrop_eq] at he hl
    refine ⟨look, ?_, fun h => hl ?_⟩
    · rw [List.foldl_cons, settleDrop_eq, he, foldl_dropReported_setHanded]
      rfl
    · exact Bool.or_eq_true_iff.2 (.inl h)

/-- The drops of an event reported (R152, R157). -/
theorem settleDrops_eq (s : State) :
    ∃ look, s.settleDrops = (s.handed.drops.foldl State.dropReported s).setHanded
        { s.handed with look := look, drops := [] } ∧ (s.handed.look = true → look = true) := by
  obtain ⟨look, he, hl⟩ := foldl_settleDrop_eq s.handed.drops (s.setHanded { s.handed with drops := [] })
  refine ⟨look, ?_, hl⟩
  unfold State.settleDrops
  rw [he, foldl_dropReported_setHanded]
  rfl

/-! ## The look for a callable entry (R82) -/

theorem handIn_normal (p : Payload) (h : s.dli.line = .normal) :
    s.handIn p = (s.setDli (s.dli.handInNormal s.tally.callNumber p).1).handDrops
      (s.dli.handInNormal s.tally.callNumber p).2 := by
  rcases s.handIn_cases p with ⟨hl, _⟩ | ⟨_, he⟩
  · exact LineState.noConfusion (h.symm.trans hl)
  · exact he

/-- A CALL handed in is never refused for an AWARD, nor one evicted for it: only CALLs are reported (R151,
R152). -/
theorem handInNormal_call_drops (d : Dli) (k : Byte) (p : CallPayload) :
    (d.handInNormal k (.call p)).2 = [] ∨ ∃ r, (d.handInNormal k (.call p)).2 = [.call r] := by
  unfold Dli.handInNormal
  dsimp only
  rw [show (Payload.call p).isTally = false from rfl, Bool.false_and, if_neg Bool.false_ne_true]
  split
  · exact .inl rfl
  · unfold Dli.handInFull
    split
    · exact .inr ⟨_, rfl⟩
    · rename_i victim _
      split
      · exact .inr ⟨_, rfl⟩
      · rename_i hcls
        have hcls : ¬ victim.payload.cls < 3 := hcls
        cases hv : victim.payload with
        | call q => exact .inr ⟨_, rfl⟩
        | tally _ => exact .inl rfl
        | _ => rw [hv] at hcls; exact absurd (by simp [Payload.cls]) hcls

theorem contains_call_iff (r x : RoundId) : [Drop.call x].contains (.call r) = true ↔ r = x := by
  simp

/-- A round as it opens, its window timer started at once when its CALL was dropped (R82, R83, R152). -/
def State.opened (w : WaitingEntry) (u : State) : RoundController :=
  { u.rounds with
    seq := u.rounds.seq + 1
    waiting := markCalled u.now u.rounds.gradient u.rounds.waiting
    openRound := some
      { round := (u.nextCallPayload w).round
        deckMask := u.conf.deckMask, window := u.conf.offerWindow
        windowDue :=
          if (u.dli.handInNormal u.tally.callNumber (.call (u.nextCallPayload w))).2.contains
            (.call (u.nextCallPayload w).round) then some (u.now + u.conf.offerWindow) else none
        offers := [] } }

/-- The opening of a round, with the drop of its CALL reported. -/
theorem openRoundFor_settled {u : State} (e : WaitingEntry) (hl : u.dli.line = .normal)
    (hd : u.handed.drops = []) :
    (u.openRoundFor e).settleDrops =
      { u with
        rounds := u.opened e
        dli := (u.dli.handInNormal u.tally.callNumber (.call (u.nextCallPayload e))).1
        handed := { u.handed with node := true, drops := [] } } := by
  obtain ⟨r, hr⟩ : ∃ r, r = u.dli.handInNormal u.tally.callNumber (.call (u.nextCallPayload e)) :=
    ⟨_, rfl⟩
  have hopen : u.openRoundFor e =
      { u with
        rounds := { u.rounds with
          seq := u.rounds.seq + 1
          waiting := markCalled u.now u.rounds.gradient u.rounds.waiting
          openRound := some
            { round := (u.nextCallPayload e).round, deckMask := u.conf.deckMask
              window := u.conf.offerWindow, windowDue := none, offers := [] } }
        dli := r.1
        handed := { u.handed with node := true, drops := u.handed.drops ++ r.2 } } := by
    have hin := handIn_normal (s := ((u.setRounds { u.rounds with
      seq := u.rounds.seq + 1
      waiting := markCalled u.now u.rounds.gradient u.rounds.waiting
      openRound := some
        { round := (u.nextCallPayload e).round, deckMask := u.conf.deckMask
          window := u.conf.offerWindow, windowDue := none, offers := [] } }).handNode))
      (.call (u.nextCallPayload e)) hl
    refine hin.trans ?_
    subst hr
    cases u
    rfl
  rw [hopen, hr, hd, List.nil_append]
  rcases handInNormal_call_drops u.dli u.tally.callNumber (u.nextCallPayload e) with h | ⟨x, h⟩
  · unfold State.opened
    rw [h]
    rfl
  · unfold State.opened State.settleDrops
    rw [h]
    dsimp only [State.setHanded, List.foldl, State.settleDrop, State.startWindow]
    by_cases hx : (u.nextCallPayload e).round = x
    · rw [if_pos ⟨hx, rfl⟩, if_pos ((contains_call_iff _ x).2 hx)]
      rfl
    · rw [if_neg fun k => hx k.1, if_neg fun k => hx ((contains_call_iff _ x).1 k)]

/-- The look for a callable entry either opens the round of the first one or leaves the state (R82). -/
theorem lookForCallable_settled {u : State} (hd : u.handed.drops = []) :
    (∃ e, u.MayOpen ∧ u.rounds.waiting.find? (WaitingEntry.callable u.now u.rounds.gradient) = some e ∧
      u.lookForCallable.settleDrops =
        { u with
          rounds := u.opened e
          dli := (u.dli.handInNormal u.tally.callNumber (.call (u.nextCallPayload e))).1
          handed := { u.handed with node := true, drops := [] } }) ∨
    ((¬ u.MayOpen ∨ u.rounds.waiting.find? (WaitingEntry.callable u.now u.rounds.gradient) = none) ∧
      u.lookForCallable.settleDrops = u) := by
  have hu : u.settleDrops = u := by
    refine (settleDrops_quiet (.inl hd)).trans ?_
    rw [← hd]
    rfl
  unfold State.lookForCallable
  by_cases hm : u.MayOpen
  · rw [if_pos hm]
    cases hf : u.rounds.waiting.find? (WaitingEntry.callable u.now u.rounds.gradient) with
    | none => exact .inr ⟨.inr rfl, hu⟩
    | some e => exact .inl ⟨e, hm, rfl, openRoundFor_settled e hm.2.2.2.1 hd⟩
  · rw [if_neg hm]
    exact .inr ⟨.inl hm, hu⟩

/-- The copies of an event of a ramp: at most the node copy. -/
theorem written_ramp {u x : State} (hl : x.handed.lanes = []) (hi : x.handed.inbound = false)
    (hn : x.node ≠ .unconfigured) (hr : x.retained = u.retained) :
    Copied [] false x.handed.node u x.written ∧
      { x.written with retained := u.retained, handed := u.handed } = { x with handed := u.handed } := by
  obtain ⟨R, hw, hc⟩ := written_copied (s := x) hn
  rw [hw]
  unfold Copied at hc ⊢
  rw [hl, hi, hr] at hc
  exact ⟨hc, by rw [← hr]; cases x; rfl⟩

/-- The look for a callable entry, with what it opens settled. -/
theorem looked_ends {u : State} (hl : u.handed.lanes = []) (hi : u.handed.inbound = false)
    (hd : u.handed.drops = []) (hn : u.node ≠ .unconfigured) :
    Looked u.handed.node u u.lookForCallable.settleDrops.written := by
  rcases lookForCallable_settled hd with ⟨e, hm, hf, h⟩ | ⟨hnot, h⟩
  · rw [h]
    obtain ⟨R, hwr, hc⟩ := written_copied (s := { u with
      rounds := u.opened e
      dli := (u.dli.handInNormal u.tally.callNumber (.call (u.nextCallPayload e))).1
      handed := { u.handed with node := true, drops := [] } }) hn
    rw [hwr]
    simp only [hl, hi] at hc
    refine ⟨fun _ w hw => ?_, fun h => ?_⟩
    · obtain rfl := Option.some.inj (hw.symm.trans hf)
      exact ⟨rfl, rfl, hc, by cases u; rfl⟩
    · rcases h with h | h
      · exact absurd hm h
      · exact absurd (h.symm.trans hf) (Option.some_ne_none e).symm
  · rw [h]
    refine ⟨fun hm w hw => ?_, fun _ => written_ramp hl hi hn rfl⟩
    rcases hnot with h | h
    · exact absurd hm h
    · exact absurd (h.symm.trans hw) (Option.some_ne_none w).symm

/-! ## The end of an event of a ramp -/

/-- At a ramp an event ends with the node copy: it evaluates nothing and builds no TALLY (R140). -/
theorem ends_ramp {x : State} (hr : x.conf.role = .ramp) (hrestart : x.handed.restart = false) :
    x.restartIfAsked.tallyIfAsked.beginCopyWrites.setHanded HandedOn.clear = x.written := by
  have h1 : x.restartIfAsked = x := if_neg (by rw [hrestart]; exact Bool.false_ne_true)
  rw [h1, show x.tallyIfAsked = x from if_neg fun h => Role.noConfusion (hr.symm.trans h.2.2)]
  rfl

/-- What Looked says does not depend on what is handed on. -/
theorem Looked.setHanded {n : Bool} {u t : State} {H : HandedOn} (h : Looked n (u.setHanded H) t) :
    Looked n u t := by
  refine ⟨fun hm w hw => ?_, fun hn => ?_⟩
  · obtain ⟨hr, hd, hc, hf⟩ := h.1 hm w hw
    exact ⟨hr, hd, hc, (congrArg (fun v : State => v.setHanded u.handed) hf :)⟩
  · obtain ⟨hc, hf⟩ := h.2 hn
    exact ⟨hc, (congrArg (fun v : State => v.setHanded u.handed) hf :)⟩

/-- How the event of a ramp that led to `w` ends, where `v` is `w` with its drops reported and `look` says
whether R82 looks. -/
abbrev State.RampEnds (look : Bool) (w v t : State) : Prop :=
  if look = true then Looked w.handed.node v t
  else Copied [] false w.handed.node v t ∧ { t with retained := v.retained, handed := v.handed } = v

/-- With its drops settled, the event of a ramp ends with the look where one is asked for, and the node copy. -/
theorem finish_settled {look : Bool} {v : State}
    (hs : w.settleDrops = v.setHanded { w.handed with look := look, drops := [] })
    (hrv : v.IsRamp) (hrestart : w.handed.restart = false)
    (hl : w.handed.lanes = []) (hi : w.handed.inbound = false) : w.RampEnds look v w.finish := by
  unfold State.finish
  rw [hs]
  obtain ⟨u, hu⟩ : ∃ u, u = v.setHanded { w.handed with look := look, drops := [] } := ⟨_, rfl⟩
  have hur : u.IsRamp := by rw [hu]; exact hrv
  have hu0 : u.handed.restart = false := by rw [hu]; exact hrestart
  have hud : u.handed.drops = [] := by rw [hu]; rfl
  have hul : u.handed.lanes = [] := by rw [hu]; exact hl
  have hui : u.handed.inbound = false := by rw [hu]; exact hi
  rw [← hu]
  cases look with
  | true =>
    have h := looked_ends hul hui hud hur.1.2
    rw [show u.lookIfAsked = u.lookForCallable from if_pos (by rw [hu]; rfl)]
    have hx : u.lookForCallable.settleDrops.conf.role = .ramp ∧
        u.lookForCallable.settleDrops.handed.restart = false := by
      rcases lookForCallable_settled hud with ⟨e, _, _, he⟩ | ⟨_, he⟩
      · rw [he]
        exact ⟨hur.2, hu0⟩
      · rw [he]
        exact ⟨hur.2, hu0⟩
    rw [ends_ramp hx.1 hx.2]
    generalize u.lookForCallable.settleDrops.written = t at h ⊢
    rw [hu] at h
    exact h.setHanded
  | false =>
    rw [show u.lookIfAsked = u from if_neg (by rw [hu]; exact Bool.false_ne_true),
      settleDrops_quiet (.inl hud),
      show u.setHanded { u.handed with drops := [] } = u by rw [hu]; rfl, ends_ramp hur.2 hu0]
    obtain ⟨hc, hf⟩ := written_ramp (u := v) (x := u) hul hui hur.1.2 (by rw [hu]; rfl)
    generalize u.written = t at hc hf ⊢
    rw [hu] at hc hf
    exact ⟨hc, hf⟩

/-- A command at a ramp ends with its drops reported, and then the look where its effect or a returning entry
asks for one. -/
theorem event_ramp {f : State → State} (hw : f s.unmoved = w) (hr : w.IsRamp)
    (hrestart : w.handed.restart = false) (hl : w.handed.lanes = []) (hi : w.handed.inbound = false) :
    ∃ t look, s.event f = t ∧ (w.handed.look = true → look = true) ∧
      w.RampEnds look (w.handed.drops.foldl State.dropReported w) t := by
  obtain ⟨look, hs, hlook⟩ := settleDrops_eq w
  obtain ⟨R, O, hvf⟩ := reported_frame w.handed.drops w
  exact ⟨w.finish, look, congrArg State.finish hw, hlook,
    finish_settled hs (by rw [hvf]; exact hr) hrestart hl hi⟩

/-- A command at a ramp that drops nothing ends with the look exactly where its effect asks for one. -/
theorem event_ramp_quiet {f : State → State} (hw : f s.unmoved = w) (hr : w.IsRamp)
    (hrestart : w.handed.restart = false) (hl : w.handed.lanes = []) (hi : w.handed.inbound = false)
    (hd : w.handed.drops = []) : ∃ t, s.event f = t ∧ w.RampEnds w.handed.look w t :=
  ⟨w.finish, congrArg State.finish hw,
    finish_settled (settleDrops_quiet (.inl hd)) hr hrestart hl hi⟩


/-- A command at a ramp whose effect only asks for the look. -/
theorem event_looked {f : State → State} {u : State}
    (hw : f s.unmoved = u.setHanded { HandedOn.clear with look := true }) (hr : u.IsRamp) :
    ∃ t, s.event f = t ∧ Looked false u t := by
  obtain ⟨t, ht, h⟩ := event_ramp_quiet hw hr rfl rfl rfl rfl
  exact ⟨t, ht, (show Looked false (u.setHanded _) t from h).setHanded⟩

end Sys2Proof.Machine
end

section
/-! PROOFS. The commands of a ramp's panel, its inputs and its gate line (O31, O32, O34, O35, O36). -/

namespace Sys2Proof.Machine

open Sys2Proof

variable {s w t : State}

/-! ## ACK -/

theorem clearedByAck_iff (k : Code) : k.clearedByAck = true ↔
    ¬ (k = .withdrawn ∨ k = .lineSilent ∨ k = .laneFault ∨ k = .lashUnconfirmed) := by
  cases k <;> simp [Code.clearedByAck]

/-- Settles O31: ACK clears the entry shown when its code is one of those, and hands on the look only where
that was STOP at a ramp. -/
theorem ackOfACondition : Obligations.AckOfACondition := by
  intro s hc
  have hpanel {f : State → State} {v : State} (h : f s.unmoved = v) :
      State.panelCommand f s.unmoved = v := (panelCommand_running (s := s.unmoved) hc.1).trans h
  have hnode : s.unmoved.node ≠ .unconfigured := hc.2
  refine ⟨fun k hk => ⟨fun hcode => ?_, fun hcode => ⟨fun hlook => ?_, fun hstop hr => ?_⟩⟩, fun hk => ?_⟩
  · have hno : ¬ k.code.clearedByAck = true := fun h => (clearedByAck_iff _).1 h hcode
    refine congrArg Host.Outcome.next (event_answered (hpanel ?_))
    rw [if_neg hnode, show shownCondition s.unmoved.conf.alarmMask s.unmoved.conditions = some k from hk]
    exact if_neg hno
  · have hyes : k.code.clearedByAck = true := (clearedByAck_iff _).2 hcode
    have hact : State.takeAck s.unmoved = { s.answered .taken with
        conditions := s.conditions.eraseP fun c =>
          decide (c.code = k.code) && decide (c.lane = k.lane) } := by
      refine hpanel ?_
      rw [if_neg hnode, show shownCondition s.unmoved.conf.alarmMask s.unmoved.conditions = some k from hk]
      refine (if_pos hyes).trans (if_neg fun h => ?_)
      rcases hlook with hl | hl
      · exact hl h.1
      · exact Role.noConfusion (hl.symm.trans h.2)
    exact congrArg Host.Outcome.next
      ((State.event_of_clear (congrArg State.handed hact :)).trans hact)
  · have hyes : k.code.clearedByAck = true := (clearedByAck_iff _).2 hcode
    obtain ⟨t, ht, h⟩ := event_looked (f := State.takeAck) (s := s) (u := { s.answered .taken with
        conditions := s.conditions.eraseP fun c =>
          decide (c.code = k.code) && decide (c.lane = k.lane) })
      (hpanel (by
        rw [if_neg hnode, show shownCondition s.unmoved.conf.alarmMask s.unmoved.conditions = some k from hk]
        exact (if_pos hyes).trans (if_pos ⟨hstop, hr⟩))) ⟨hc, hr⟩
    exact ⟨t, congrArg Host.Outcome.next ht, h⟩
  · refine congrArg Host.Outcome.next (event_answered (hpanel ?_))
    rw [if_neg hnode, show shownCondition s.unmoved.conf.alarmMask s.unmoved.conditions = none from hk]

/-! ## ADVANCE PORT -/

/-- What acting on an advance makes of the state (R115). -/
theorem actOnAdvance_eq (s : State) :
    s.actOnAdvance =
      { s with
        tally := { s.tally with callNumber := s.tally.callNumber + 1 }
        dli := s.dli.taking (s.tally.callNumber + 1) (.portcall (s.tally.callNumber + 1))
        rounds := { s.rounds with heldAdvance := false }
        handed := { s.handed with
          node := true
          drops := s.handed.drops ++
            s.dli.dropsOf (s.tally.callNumber + 1) (.portcall (s.tally.callNumber + 1)) } } := by
  unfold State.actOnAdvance
  dsimp only
  rw [handIn_eq]
  cases s
  rfl

/-- A PORTCALL handed to a line with room drops nothing. -/
theorem dropsOf_portcall {d : Dli} (k n : Byte) (h : d.hasRoom 1) : d.dropsOf k (.portcall n) = [] := by
  unfold Dli.dropsOf
  split
  · rename_i hl
    have hlen : d.queue.length < Config.maxQueued :=
      h.resolve_left fun hs => LineState.noConfusion (hl.symm.trans hs)
    unfold Dli.handInNormal
    rw [show (Payload.portcall n).isTally = false from rfl, Bool.false_and, if_neg Bool.false_ne_true,
      if_pos hlen]
  · rfl

/-- Settles O32: with no round open the advance is acted on, and otherwise it is held. -/
theorem advanceOfThePort : Obligations.AdvanceOfThePort := by
  intro s hr hn
  have hpanel {f : State → State} {v : State} (h : f s.unmoved = v) :
      State.panelCommand f s.unmoved = v := (panelCommand_running (s := s.unmoved) hr.1.1).trans h
  have hact : s.unmoved.IsRamp ∧ s.unmoved.node = .active := ⟨hr, hn⟩
  refine ⟨fun ho hroom => ?_, fun ho hh => ?_⟩
  · obtain ⟨t, ht, hc, hf⟩ := event_ramp_quiet (f := State.takeAdvance) (s := s) (w :=
      { s with
        tally := { s.tally with callNumber := s.tally.callNumber + 1 }
        dli := s.dli.taking (s.tally.callNumber + 1) (.portcall (s.tally.callNumber + 1))
        rounds := { s.rounds with heldAdvance := false }
        out := { s.out with panel := s.out.panel ++ [.taken] }
        handed := { HandedOn.clear with node := true } })
      (hpanel (by
        rw [if_pos hact, show s.unmoved.rounds.openRound = none from ho]
        dsimp only
        rw [actOnAdvance_eq]
        dsimp only [State.setHanded]
        rw [dropsOf_portcall _ _ hroom]
        rfl)) hr rfl rfl rfl rfl
    exact ⟨t, congrArg Host.Outcome.next ht, (congrArg State.tally hf :), (congrArg State.dli hf :),
      (congrArg State.rounds hf :), (congrArg State.out hf :), hc,
      (congrArg (fun v : State => { v with
        tally := s.tally, dli := s.dli, rounds := s.rounds, out := s.out
        retained := s.retained, handed := s.handed }) hf :)⟩
  · obtain ⟨o, ho⟩ := Option.ne_none_iff_exists'.1 ho
    have hact : State.takeAdvance s.unmoved =
        { s.answered .taken with rounds := { s.rounds with heldAdvance := true } } := by
      refine hpanel ?_
      rw [if_pos hact, show s.unmoved.rounds.openRound = some o from ho]
      exact if_neg (by rw [show s.unmoved.rounds.heldAdvance = false from hh]; exact Bool.false_ne_true)
    exact congrArg Host.Outcome.next
      ((State.event_of_clear (congrArg State.handed hact :)).trans hact)

/-! ## The stop line and the gradient class -/

theorem lowestLevel_le (cs : List Condition) : lowestLevel cs ≤ 7 := by
  unfold lowestLevel
  suffices ∀ m, m ≤ 7 → cs.foldl (fun m c => min m c.code.level) m ≤ 7 from this 7 le_rfl
  induction cs with
  | nil => exact fun m hm => hm
  | cons c cs ih => exact fun m hm => ih _ (min_le_of_left_le hm)

/-- STOP is of the highest level, so that its raising always leaves it pending (R164, R165). -/
theorem raiseCondition_stop (now : Nat) (cs : List Condition) :
    (raiseCondition now .stop none cs).any (Condition.isFor .stop none) = true := by
  unfold raiseCondition
  split
  · rename_i h
    obtain ⟨c, hc, hf⟩ := List.any_eq_true.1 h
    refine List.any_eq_true.2 ⟨_, List.mem_map.2 ⟨c, hc, rfl⟩, ?_⟩
    rw [if_pos hf]
    exact hf
  · dsimp only
    have hnew (l : List Condition) :
        (l ++ [({ code := .stop, lane := none, count := 1, age := now } : Condition)]).any
          (Condition.isFor .stop none) = true :=
      List.any_eq_true.2 ⟨_, List.mem_append_right _ (List.mem_singleton.2 rfl), rfl⟩
    split
    · exact hnew _
    · rw [if_pos (show lowestLevel cs ≤ Code.stop.level from lowestLevel_le cs)]
      exact hnew _

theorem actOnHeld_none (h : s.rounds.heldAdvance = false) : s.actOnHeld = s := by
  unfold State.actOnHeld
  rw [h]
  rfl

/-- A held advance acted on, with its drops reported, is what heldActed says. -/
theorem actOnHeld_reported (hd : s.handed.drops = []) :
    s.actOnHeld.handed.drops.foldl State.dropReported s.actOnHeld =
      s.heldActed.setHanded s.actOnHeld.handed := by
  unfold State.actOnHeld State.heldActed
  split
  · rw [actOnAdvance_eq, hd, List.nil_append]
    exact foldl_dropReported_setHanded _ _ { s with
      tally := { s.tally with callNumber := s.tally.callNumber + 1 }
      dli := s.dli.taking (s.tally.callNumber + 1) (.portcall (s.tally.callNumber + 1))
      rounds := { s.rounds with heldAdvance := false } }
  · rw [hd]
    rfl

theorem actOnHeld_handed (hd : s.handed = HandedOn.clear) :
    ∃ ds, s.actOnHeld.handed = { HandedOn.clear with node := s.rounds.heldAdvance, drops := ds } := by
  unfold State.actOnHeld
  split
  · rename_i hh
    rw [actOnAdvance_eq, hd, hh]
    exact ⟨_, rfl⟩
  · rename_i hh
    rw [hd, Bool.eq_false_iff.2 hh]
    exact ⟨[], rfl⟩

/-- What a held advance leaves as it is. -/
theorem heldActed_frame (s : State) :
    ∃ T D R O, s.heldActed = { s with tally := T, dli := D, rounds := R, out := O } := by
  unfold State.heldActed
  split
  · obtain ⟨R, O, h⟩ := reported_frame
      (s.dli.dropsOf (s.tally.callNumber + 1) (.portcall (s.tally.callNumber + 1))) { s with
        tally := { s.tally with callNumber := s.tally.callNumber + 1 }
        dli := s.dli.taking (s.tally.callNumber + 1) (.portcall (s.tally.callNumber + 1))
        rounds := { s.rounds with heldAdvance := false } }
    exact ⟨_, _, R, O, h⟩
  · exact ⟨s.tally, s.dli, s.rounds, s.out, rfl⟩

theorem heldActed_setHanded (H : HandedOn) (s : State) :
    (s.setHanded H).heldActed = s.heldActed.setHanded H := by
  unfold State.heldActed
  by_cases h : s.rounds.heldAdvance = true
  · refine (if_pos h).trans (Eq.trans ?_ (congrArg (fun v : State => v.setHanded H) (if_pos h)).symm)
    exact foldl_dropReported_setHanded H _ { s with
        tally := { s.tally with callNumber := s.tally.callNumber + 1 }
        dli := s.dli.taking (s.tally.callNumber + 1) (.portcall (s.tally.callNumber + 1))
        rounds := { s.rounds with heldAdvance := false } }
  · exact (if_neg h).trans (congrArg (fun v : State => v.setHanded H) (if_neg h)).symm

/-- An event of a ramp whose effect ends with the close of a round: a held advance is acted on, its drops are
reported, and R82 looks (R82, R115, R152). -/
theorem event_closed {f : State → State} {v : State} (hv : v.IsRamp)
    (hh : v.handed = HandedOn.clear) (hw : f s.unmoved = v.actOnHeld.handLook) :
    ∃ t, s.event f = t ∧ Looked v.rounds.heldAdvance v.heldActed t := by
  obtain ⟨ds, hds⟩ := actOnHeld_handed hh
  have hhand : v.actOnHeld.handLook.handed =
      { HandedOn.clear with look := true, node := v.rounds.heldAdvance, drops := ds } := by
    show { v.actOnHeld.handed with look := true } = _
    rw [hds]
  have hramp : v.actOnHeld.handLook.IsRamp := by
    unfold State.actOnHeld
    split
    · rw [actOnAdvance_eq]
      exact hv
    · exact hv
  obtain ⟨t, look, ht, hlook, h⟩ := event_ramp hw hramp (congrArg HandedOn.restart hhand)
    (congrArg HandedOn.lanes hhand) (congrArg HandedOn.inbound hhand)
  refine ⟨t, ht, ?_⟩
  obtain rfl := hlook (congrArg HandedOn.look hhand)
  have hrep : v.actOnHeld.handLook.handed.drops.foldl State.dropReported v.actOnHeld.handLook =
      v.heldActed.setHanded v.actOnHeld.handLook.handed := by
    refine (foldl_dropReported_setHanded v.actOnHeld.handLook.handed
      v.actOnHeld.handed.drops v.actOnHeld).trans ?_
    rw [actOnHeld_reported (congrArg HandedOn.drops hh :)]
    rfl
  rw [State.RampEnds, if_pos rfl, hrep, congrArg HandedOn.node hhand] at h
  exact h.setHanded

/-- The state with its open round abandoned at a rising edge of the stop line, its held advance not yet acted
on (R116, R169). -/
def State.abandoned (o : OpenRound) (w : WaitingEntry) (s : State) : State :=
  { s with
    stopLine := true, conditions := raiseCondition s.now .stop none s.conditions
    dli := s.dli.takeOut (Payload.isCallOf o.round)
    rounds := { s.rounds with
      openRound := none
      waiting := { w with called := false, notBefore := none } ::
        s.rounds.waiting.eraseP (·.called) } }

theorem stopEdge_ramp {o : OpenRound} {e : WaitingEntry} (hr : s.IsRamp)
    (ho : s.rounds.openRound = some o) (he : s.rounds.waiting.find? (·.called) = some e) :
    (s.setStopLine true).stopEdge = (s.abandoned o e).actOnHeld.handLook := by
  unfold State.stopEdge
  dsimp only
  rw [show ((s.setStopLine true).raise .stop none).conf.role = .ramp from hr.2]
  dsimp only
  unfold State.abandonRound
  rw [show ((s.setStopLine true).raise .stop none).rounds.openRound = some o from ho]
  have hhead : calledToHead s.rounds.waiting =
      { e with called := false, notBefore := none } :: s.rounds.waiting.eraseP (·.called) := by
    rw [calledToHead, he]
  dsimp only
  refine congrArg (fun v : State => v.actOnHeld.handLook) ?_
  refine (congrArg (fun l => (({ s with
    stopLine := true, conditions := raiseCondition s.now .stop none s.conditions
    dli := s.dli.takeOut (Payload.isCallOf o.round) } : State).setRounds { s.rounds with
    openRound := none, waiting := l })) hhead)

theorem stopEdge_taken (hc : s.Configured) :
    (if (s.unmoved.setStopLine true).Configured then (s.unmoved.setStopLine true).stopEdge
      else s.unmoved.setStopLine true) = (s.unmoved.setStopLine true).stopEdge := if_pos hc

/-- Settles O34: the edge closes the open round, and the STOP it raises keeps R82 from opening another. -/
theorem stopLineAtARamp : Obligations.StopLineAtARamp := by
  intro s
  refine ⟨fun hr ho => ?_, fun hr o ho w hw => ?_, fun hc => ?_⟩
  · have hedge : State.stopEdge (s.unmoved.setStopLine true) =
        { s.unmoved with
          stopLine := true, conditions := raiseCondition s.now .stop none s.conditions } := by
      unfold State.stopEdge
      dsimp only
      rw [show ((s.unmoved.setStopLine true).raise .stop none).conf.role = .ramp from hr.2]
      dsimp only
      unfold State.abandonRound
      rw [show ((s.unmoved.setStopLine true).raise .stop none).rounds.openRound = none from ho]
      rfl
    have hact := (stopEdge_taken hr.1).trans hedge
    exact congrArg Host.Outcome.next
      ((State.event_of_clear (f := fun s => if (s.setStopLine true).Configured then
        (s.setStopLine true).stopEdge else s.setStopLine true) (congrArg State.handed hact :)).trans hact)
  · have hedge := (stopEdge_taken hr.1).trans
      (stopEdge_ramp (s := s.unmoved) hr ho hw)
    obtain ⟨t, ht, h⟩ := event_closed
      (f := fun s => if (s.setStopLine true).Configured then (s.setStopLine true).stopEdge
        else s.setStopLine true) (v := s.unmoved.abandoned o w) hr rfl hedge
    refine ⟨t, congrArg Host.Outcome.next ht, ?_⟩
    obtain ⟨v, hv⟩ : ∃ v, v = (s.abandoned o w).heldActed := ⟨_, rfl⟩
    have hacted : (s.unmoved.abandoned o w).heldActed = v.setHanded HandedOn.clear :=
      (heldActed_setHanded HandedOn.clear (s.abandoned o w)).trans
        (congrArg (fun u : State => u.setHanded HandedOn.clear) hv.symm)
    obtain ⟨T, D, R, O, hfr⟩ := heldActed_frame (s.abandoned o w)
    rw [hacted] at h
    have hstop : ¬ v.MayOpen := by
      rw [hv, hfr]
      exact fun hm => Bool.noConfusion
        (hm.2.2.2.2.2.symm.trans (raiseCondition_stop s.now s.conditions))
    obtain ⟨hc, hf⟩ := h.setHanded.2 (.inl hstop)
    have hret : v.retained = s.retained ∧ v.handed = s.handed := by
      rw [hv, hfr]
      exact ⟨rfl, rfl⟩
    show Copied [] false s.rounds.heldAdvance s t ∧
      { t with retained := s.retained, handed := s.handed } = (s.abandoned o w).heldActed
    rw [hret.1, hret.2] at hf
    refine ⟨?_, hf.trans hv⟩
    unfold Copied at hc ⊢
    rwa [hret.1] at hc
  · have hact : (if (s.unmoved.setStopLine true).Configured then (s.unmoved.setStopLine true).stopEdge
        else s.unmoved.setStopLine true) = { s.unmoved with stopLine := true } := if_neg hc
    exact congrArg Host.Outcome.next
      ((State.event_of_clear (f := fun s => if (s.setStopLine true).Configured then
        (s.setStopLine true).stopEdge else s.setStopLine true) (congrArg State.handed hact :)).trans hact)

/-- Settles O35: the change and the passing of the time are events that only ask for the look. -/
theorem gradientAndNotBefore : Obligations.GradientAndNotBefore := by
  intro s g b
  refine ⟨fun hr => ?_, fun hr => ?_, fun hr w hw due hdue => ?_, fun hr hnone => ?_⟩
  · obtain ⟨t, ht, h⟩ := event_looked (s := s)
      (f := fun s => if (s.setGradientPin g).IsRamp then
        ((s.setGradientPin g).setRounds { (s.setGradientPin g).rounds with gradient := g }).handLook
        else s.setGradientPin g)
      (u := { s with gradientPin := g, rounds := { s.rounds with gradient := g } }) (if_pos hr) hr
    exact ⟨t, congrArg Host.Outcome.next ht, h⟩
  · have hact : (if (s.unmoved.setGradientPin g).IsRamp then
        ((s.unmoved.setGradientPin g).setRounds
          { (s.unmoved.setGradientPin g).rounds with gradient := g }).handLook
        else s.unmoved.setGradientPin g) = { s.unmoved with gradientPin := g } := if_neg hr
    exact congrArg Host.Outcome.next
      ((State.event_of_clear (f := fun s => if (s.setGradientPin g).IsRamp then
        ((s.setGradientPin g).setRounds { (s.setGradientPin g).rounds with gradient := g }).handLook
        else s.setGradientPin g) (congrArg State.handed hact :)).trans hact)
  · have hpass : s.unmoved.passNotBefore b = (s.unmoved.reach due).handLook := by
      unfold State.passNotBefore
      rw [show s.unmoved.rounds.waiting.find? (fun w => decide (w.arrival.booking = b)) = some w from hw]
      dsimp only
      rw [hdue]
    obtain ⟨t, ht, h⟩ := event_looked (s := s)
      (f := fun s => if s.IsRamp then s.passNotBefore b else s)
      (u := { s with now := max s.now due }) ((if_pos hr).trans hpass) hr
    exact ⟨t, congrArg Host.Outcome.next ht, h⟩
  · refine congrArg Host.Outcome.next (event_unmoved ((if_pos hr).trans ?_))
    unfold State.passNotBefore
    split
    · rfl
    · rename_i w hw
      rw [hnone w (List.mem_of_find?_eq_some hw) (by simpa using List.find?_some hw)]

/-! ## The gate line -/

theorem kind?_ofCode (b : Byte) :
    (KindField.ofCode b).kind? = none ↔ b.toNat = 0 ∨ 5 < b.toNat := by
  unfold KindField.ofCode
  simp only [← BitVec.toNat_inj]
  split_ifs <;> simp_all [KindField.kind?] <;> omega

theorem group?_ofCode (b : Byte) :
    (HazardField.ofCode b ≠ .none ∧ (HazardField.ofCode b).group? = Option.none) ↔ 6 < b.toNat := by
  unfold HazardField.ofCode
  simp only [← BitVec.toNat_inj]
  split_ifs <;> simp_all [HazardField.group?] <;> omega

theorem holdsBooking_iff (rc : RoundController) (b : Nat) :
    rc.holdsBooking b = true ↔ b ∈ rc.bookings := by
  simp [RoundController.holdsBooking, RoundController.bookings]

/-- The cases of R102 read off the bytes of the record. -/
theorem refusal_ofWire (rc : RoundController) (w : ArrivalWire) :
    rc.refusal (Arrival.ofWire w) =
      if w.booking.toNat = 0 then some .noBooking
      else if w.kind.toNat = 0 ∨ 5 < w.kind.toNat then some .badKind
      else if 250 < w.length.toNat then some .tooLong
      else if 600 < w.weight.toNat then some .tooHeavy
      else if 6 < w.hazard.toNat then some .badHazard
      else if w.booking.toNat ∈ rc.bookings then some .duplicate
      else if 16 ≤ rc.waiting.length then some .queueFull
      else none := by
  unfold RoundController.refusal Arrival.ofWire
  have hlength : (250 : Int) < (w.length.toNat : Int) ↔ 250 < w.length.toNat := by omega
  have hweight : (600 : Int) < (w.weight.toNat : Int) ↔ 600 < w.weight.toNat := by omega
  simp only [kind?_ofCode, group?_ofCode, holdsBooking_iff,
    hlength, hweight]

theorem clamp_eq_self_iff {α : Type} [LinearOrder α] {lo hi x : α} (h : lo ≤ hi) :
    max lo (min hi x) = x ↔ lo ≤ x ∧ x ≤ hi := by
  refine ⟨fun he => ?_, fun hx => ?_⟩
  · rw [← he]
    exact ⟨le_max_left _ _, max_le h (min_le_left _ _)⟩
  · rw [min_eq_right hx.2, max_eq_right hx.1]

/-- The fields of an arrival are in their bounds (R103). -/
theorem Arrival.inBounds_eq_self (a : Arrival) :
    a.inBounds = a ↔ 20 ≤ a.length ∧ (15 ≤ a.width ∧ a.width ≤ 45) ∧ (10 ≤ a.height ∧ a.height ≤ 50) ∧
      5 ≤ a.weight ∧ (5 ≤ a.axle ∧ a.axle ≤ 200) ∧ 1 ≤ a.rank ∧ a.rank ≤ 15 := by
  cases a
  simp only [Arrival.inBounds, clamp, Arrival.mk.injEq, true_and, max_eq_right_iff,
    clamp_eq_self_iff (show (15 : Int) ≤ 45 by decide), clamp_eq_self_iff (show (10 : Int) ≤ 50 by decide),
    clamp_eq_self_iff (show (5 : Int) ≤ 200 by decide), clamp_eq_self_iff (show 1 ≤ 15 by decide)]

/-- The CLAMPED mark says whether a field was out of its range (R103). -/
theorem accepted_eq (a : Arrival) :
    a.accepted = { a with
      length := max 20 a.length, width := max 15 (min 45 a.width)
      height := max 10 (min 50 a.height), weight := max 5 a.weight
      axle := max 5 (min 200 a.axle), rank := max 1 (min 15 a.rank)
      clamped := !(decide (20 ≤ a.length) && decide (15 ≤ a.width) &&
        decide (a.width ≤ 45) && decide (10 ≤ a.height) && decide (a.height ≤ 50) &&
        decide (5 ≤ a.weight) && decide (5 ≤ a.axle) && decide (a.axle ≤ 200) &&
        decide (1 ≤ a.rank) && decide (a.rank ≤ 15)) } := by
  have hmark : decide (a.inBounds ≠ a) = !(decide (20 ≤ a.length) && decide (15 ≤ a.width) &&
        decide (a.width ≤ 45) && decide (10 ≤ a.height) && decide (a.height ≤ 50) &&
        decide (5 ≤ a.weight) && decide (5 ≤ a.axle) && decide (a.axle ≤ 200) &&
        decide (1 ≤ a.rank) && decide (a.rank ≤ 15)) := by
    simp only [ne_eq, a.inBounds_eq_self, decide_not, Bool.decide_and, Bool.and_assoc]
  unfold Arrival.accepted
  rw [hmark]
  rfl

/-- Settles O36, by the refusal that R102 finds or does not. -/
theorem arrivalAtARamp : Obligations.ArrivalAtARamp := by
  intro s w check
  refine ⟨fun hr hk => ?_, fun h => ?_⟩
  · dsimp only
    rw [← refusal_ofWire]
    have hguard : s.unmoved.IsRamp ∧ arrivalAgrees w check = true := ⟨hr, messageAgrees_of hk⟩
    refine ⟨fun reason hrefuse => ?_, fun haccept => ?_⟩
    · have htake : s.unmoved.takeArrival (Arrival.ofWire w) =
          { s.disposed w.booking.toNat (.refused reason) with handed := HandedOn.clear } := by
        unfold State.takeArrival
        rw [show s.unmoved.rounds.refusal (Arrival.ofWire w) = some reason from hrefuse]
        rfl
      exact congrArg Host.Outcome.next ((State.event_of_clear
        (congrArg State.handed ((if_pos hguard).trans htake) :)).trans ((if_pos hguard).trans htake))
    · have htake : s.unmoved.takeArrival (Arrival.ofWire w) = (s.waitingNow (s.rounds.waiting ++
          [{ arrival := (Arrival.ofWire w).accepted, attempts := 0, notBefore := none
             called := false }])).setHanded { HandedOn.clear with look := true } := by
        unfold State.takeArrival
        rw [show s.unmoved.rounds.refusal (Arrival.ofWire w) = none from haccept]
        rfl
      obtain ⟨t, ht, h⟩ := event_looked (s := s)
        (f := fun s => if s.IsRamp ∧ arrivalAgrees w check = true then
          s.takeArrival (Arrival.ofWire w) else s) ((if_pos hguard).trans htake) hr
      rw [accepted_eq] at h
      exact ⟨t, congrArg Host.Outcome.next ht, h⟩
  · refine congrArg Host.Outcome.next (event_guarded fun hg => ?_)
    rcases h with h | h
    · exact h hg.1
    · exact Bool.noConfusion ((messageAgrees_false h).symm.trans hg.2)

end Sys2Proof.Machine
end

section
/-! PROOFS. Frames as a node receives them: what a reception hands on, and what it leaves for the frame's own
block (R145, R148, R156, R161). -/

namespace Sys2Proof.Machine

open Sys2Proof

variable {s w t v : State} {h : RxHeader} {p : Payload}

/-! ## Reception -/

/-- What the catch-up of a frame hands on (R18, R145, R148). -/
def State.caughtHanded (h : RxHeader) (s : State) : HandedOn :=
  { HandedOn.clear with
    restart := s.caughtBay h, lanes := s.caughtLanes h, inbound := s.caughtBay h, node := s.behind h }

/-- The catch-up does not read what is handed on; it hands on its own changes. -/
theorem caughtUp_unmoved (h : RxHeader) (s : State) :
    s.unmoved.caughtUp h = (s.caughtUp h).setHanded (s.caughtHanded h) := by
  unfold State.caughtUp State.caughtHanded State.caughtLanes State.caughtBay State.behind
  cases hk : leads h.callNumber s.tally.callNumber with
  | false =>
    rw [catchUp_of_not_leads (s := s.acknowledge) hk,
      catchUp_of_not_leads (s := s.unmoved.acknowledge) hk]
    rfl
  | true =>
    cases hr : s.conf.role with
    | bay =>
      rw [catchUp_bay_eq (s := s.acknowledge) hk hr,
        catchUp_bay_eq (s := s.unmoved.acknowledge) hk hr, portAdvances_eq,
        portAdvances_eq]
      rfl
    | ramp =>
      rw [catchUp_ramp_eq (s := s.acknowledge) hk hr,
        catchUp_ramp_eq (s := s.unmoved.acknowledge) hk hr]
      rfl

/-- What reception and catch-up leave as it is (R145, R156). -/
theorem State.caughtUp_frame (h : RxHeader) (s : State) :
    s.caughtUp h =
      { s with
        table := (s.caughtUp h).table, eval := (s.caughtUp h).eval, tally := (s.caughtUp h).tally
        conditions := (s.caughtUp h).conditions, handed := (s.caughtUp h).handed
        out := { s.out with acks := s.out.acks + 1 } } :=
  congrArg (fun u : State => { u with
    table := (s.caughtUp h).table, eval := (s.caughtUp h).eval, tally := (s.caughtUp h).tally
    conditions := (s.caughtUp h).conditions, handed := (s.caughtUp h).handed })
    (s.acknowledge.catchUp_frame h.callNumber)

@[simp] theorem caughtUp_now : (s.caughtUp h).now = s.now :=
  (congrArg State.now (s.caughtUp_frame h) :)
@[simp] theorem caughtUp_conf : (s.caughtUp h).conf = s.conf :=
  (congrArg State.conf (s.caughtUp_frame h) :)
@[simp] theorem caughtUp_node : (s.caughtUp h).node = s.node :=
  (congrArg State.node (s.caughtUp_frame h) :)
@[simp] theorem caughtUp_life : (s.caughtUp h).life = s.life :=
  (congrArg State.life (s.caughtUp_frame h) :)
@[simp] theorem caughtUp_rounds : (s.caughtUp h).rounds = s.rounds :=
  (congrArg State.rounds (s.caughtUp_frame h) :)
@[simp] theorem caughtUp_dli : (s.caughtUp h).dli = s.dli :=
  (congrArg State.dli (s.caughtUp_frame h) :)
@[simp] theorem caughtUp_retained : (s.caughtUp h).retained = s.retained :=
  (congrArg State.retained (s.caughtUp_frame h) :)

/-- A frame that the node hears is taken after its catch-up (R145, R156, R161). -/
theorem receive_heard {take : State → State} (hh : s.Hears h p) :
    State.receive h p take s.unmoved = take ((s.caughtUp h).setHanded (s.caughtHanded h)) := by
  obtain ⟨hc, ha, hw⟩ := hh
  unfold State.receive
  refine (if_pos (show s.unmoved.Configured ∧ frameAgrees h p = true from ⟨hc, ha⟩)).trans ?_
  rw [if_pos hw]
  exact congrArg take (caughtUp_unmoved h s)

/-! ## How the event of a frame ends -/

/-- The restart of a catch-up, where the frame's own block hands nothing on. -/
theorem heard_flight (hsnap : t.snapshot = (s.caughtUp h).snapshot)
    (hk : EvaluatorKept (s.caughtBay h) v t) :
    t.eval = { v.eval with
      inFlight := if s.caughtBay h = true then
          v.eval.inFlight.map fun e =>
            { e with snapshot := (s.caughtUp h).snapshot, restarts := e.restarts + 1 }
        else v.eval.inFlight } := by
  obtain ⟨hf, he⟩ := hk
  have hfl : t.eval.inFlight = if s.caughtBay h = true then
          v.eval.inFlight.map fun e =>
            { e with snapshot := (s.caughtUp h).snapshot, restarts := e.restarts + 1 }
        else v.eval.inFlight := by
    split
    · rename_i hb
      rw [← hsnap]
      exact (if_pos hb).mp hf
    · rename_i hb
      exact (if_neg hb).mp hf
  rw [← hfl]
  exact congrArg (fun e : Evaluator => { e with inFlight := t.eval.inFlight }) he

/-- A frame whose block hands nothing on leaves the event to the catch-up. -/
theorem event_heard {f : State → State} (hw : f s.unmoved = v.setHanded (s.caughtHanded h))
    (hv : v.Configured) (hc : v.conf = s.conf) (hr : v.retained = s.retained)
    (hsnap : v.snapshot = (s.caughtUp h).snapshot) :
    ∃ t, s.event f = t ∧ Heard h s v t := by
  cases hrole : s.conf.role with
  | bay =>
    obtain ⟨t, ht, he⟩ := event_bay hw ⟨hv, (congrArg Conf.role hc).trans hrole⟩ (.inl rfl)
    have hf := he.frame
    obtain ⟨hT, hD⟩ := he.uncaused rfl
    rw [← hT, ← hD] at hf
    have hkept : t.snapshot = v.snapshot :=
      snapshot_kept (congrArg State.table hf :) (congrArg State.conf hf :)
        (he.sums (s := v) (Int.add_zero _).symm (Int.add_zero _).symm rfl rfl)
    refine ⟨t, ht, heard_flight (hkept.trans hsnap) he.eval, ?_,
      (congrArg (fun u : State => u.setHanded v.handed) hf :)⟩
    exact he.copied hr rfl rfl (Bool.or_false _)
  | ramp =>
    have hb : s.caughtBay h = false := by
      unfold State.caughtBay
      rw [hrole]
      exact Bool.and_false _
    have hl : s.caughtLanes h = [] := by
      unfold State.caughtLanes
      rw [hrole]
      exact if_neg fun k => Role.noConfusion k.2
    obtain ⟨t, ht, hcop, hf⟩ := event_ramp_quiet hw ⟨hv, (congrArg Conf.role hc).trans hrole⟩
      hb hl hb rfl
    refine ⟨t, ht, ?_, ?_,
      (congrArg (fun u : State => { u with eval := v.eval, handed := v.handed }) hf :)⟩
    · rw [hb]
      exact (congrArg State.eval hf :)
    · rw [hl, hb]
      unfold Copied at hcop ⊢
      rw [← hr]
      exact hcop

/-- A frame that is heard and not acted on. -/
theorem event_ignored {take : State → State} (hh : s.Hears h p)
    (hi : take ((s.caughtUp h).setHanded (s.caughtHanded h)) =
      (s.caughtUp h).setHanded (s.caughtHanded h)) :
    ∃ t, s.event (State.receive h p take) = t ∧ Heard h s (s.caughtUp h) t := by
  refine event_heard ((receive_heard hh).trans hi) ?_ caughtUp_conf
    caughtUp_retained rfl
  unfold State.Configured
  rw [caughtUp_life, caughtUp_node]
  exact hh.1

theorem atBay_bay {take : State → State} (hr : s.conf.role = .bay) : s.atBay take = take s := by
  unfold State.atBay
  rw [hr]

theorem atBay_ramp {take : State → State} (hr : s.conf.role = .ramp) : s.atBay take = s := by
  unfold State.atBay
  rw [hr]

theorem atRamp_ramp {take : State → State} (hr : s.conf.role = .ramp) : s.atRamp take = take s := by
  unfold State.atRamp
  rw [hr]

theorem atRamp_bay {take : State → State} (hr : s.conf.role = .bay) : s.atRamp take = s := by
  unfold State.atRamp
  rw [hr]

theorem caughtUp_role {r : Role} (hr : s.conf.role = r) {H : HandedOn} :
    ((s.caughtUp h).setHanded H).conf.role = r :=
  (congrArg Conf.role caughtUp_conf).trans hr

/-- A bay's frame at a ramp (R161). -/
theorem event_atBay_ramp {take : State → State} (hh : s.Hears h p) (hr : s.conf.role = .ramp) :
    ∃ t, s.event (State.receive h p (State.atBay take)) = t ∧ Heard h s (s.caughtUp h) t :=
  event_ignored hh (atBay_ramp (caughtUp_role hr))

/-- A ramp's frame at a bay (R161). -/
theorem event_atRamp_bay {take : State → State} (hh : s.Hears h p) (hr : s.conf.role = .bay) :
    ∃ t, s.event (State.receive h p (State.atRamp take)) = t ∧ Heard h s (s.caughtUp h) t :=
  event_ignored hh (atRamp_bay (caughtUp_role hr))

/-- A bay's frame at a bay, whose block hands nothing on. -/
theorem event_atBay {take : State → State} (hh : s.Hears h p) (hr : s.conf.role = .bay)
    (hw : take ((s.caughtUp h).setHanded (s.caughtHanded h)) = v.setHanded (s.caughtHanded h))
    (hv : v.Configured) (hc : v.conf = s.conf) (hret : v.retained = s.retained)
    (hsnap : v.snapshot = (s.caughtUp h).snapshot) :
    ∃ t, s.event (State.receive h p (State.atBay take)) = t ∧ Heard h s v t :=
  event_heard ((receive_heard hh).trans
    ((atBay_bay (caughtUp_role hr)).trans hw)) hv hc hret hsnap

theorem caughtUp_configured (hc : s.Configured) : (s.caughtUp h).Configured := by
  unfold State.Configured
  rw [caughtUp_life, caughtUp_node]
  exact hc

/-! ## Frames turned away -/

/-- Every frame command is a reception of its frame. -/
theorem exec_frame {c : Instr} (hc : frameOf? c = some (h, p)) :
    ∃ take, ∀ s, exec c s = .next (s.event (State.receive h p take)) := by
  induction c with
  | call _ _ | offer _ _ | award _ _ | decline _ _ | placed _ _ | noticeMissing _ _ | tally _ _
  | noticeWithdrawn _ | portcall _ _ =>
    cases hc
    exact ⟨_, fun _ => rfl⟩
  | _ => exact absurd hc nofun

theorem isNodeSource_iff (b : Byte) : isNodeSource b = true ↔
    (1 ≤ b.toNat ∧ b.toNat ≤ 48) ∨ (60 ≤ b.toNat ∧ b.toNat ≤ 63) := by
  simp [isNodeSource]

theorem wellFormed_iff (h : RxHeader) (p : Payload) : p.wellFormed h = true ↔
    match p with
    | .call q => 10 ≤ q.window.toNat ∧ q.window.toNat ≤ 200
    | .tally q => q.callNumber = h.callNumber
    | _ => True := by
  cases p <;> simp [Payload.wellFormed]

theorem frameWellFormed_iff (h : RxHeader) (p : Payload) : frameWellFormed h p = true ↔
    h.form = .asRow ∧ h.cls.toNat = p.cls ∧ h.length.toNat = p.length ∧
      isNodeSource h.source = true ∧ p.wellFormed h = true := by
  simp only [frameWellFormed, Bool.and_eq_true, decide_eq_true_eq, and_assoc]

/-- A frame of one of the cases of R161 is malformed. -/
theorem frameWellFormed_false (hm : h.form ≠ .asRow ∨ h.cls.toNat ≠ p.cls ∨ h.length.toNat ≠ p.length ∨
      h.source.toNat = 0 ∨ (48 < h.source.toNat ∧ h.source.toNat < 60) ∨ 63 < h.source.toNat ∨
      (match p with
        | .call q => q.window.toNat < 10 ∨ 200 < q.window.toNat
        | .tally q => q.callNumber ≠ h.callNumber
        | _ => False)) : frameWellFormed h p = false := by
  rw [Bool.eq_false_iff]
  intro hw
  obtain ⟨hform, hcls, hlen, hsource, hwell⟩ := (frameWellFormed_iff h p).1 hw
  have hsource := (isNodeSource_iff h.source).1 hsource
  have hwell := (wellFormed_iff h p).1 hwell
  rcases hm with hm | hm | hm | hm | hm | hm | hm
  · exact hm hform
  · exact hm hcls
  · exact hm hlen
  · omega
  · omega
  · omega
  · cases p with
    | call q => simp only at hm hwell; omega
    | tally q => exact hm hwell
    | _ => exact hm

end Sys2Proof.Machine
end

section
/-! PROOFS. Frames that a node does not act on, and those that move one block alone (O37, O39, O43, O44). -/

namespace Sys2Proof.Machine

open Sys2Proof

variable {s w t v : State} {h : RxHeader}

/-! ## CALLs turned away -/

theorem turnsAway_iff (k m : Byte) (s : State) : s.turnsAway k m = true ↔
    (s.node ≠ .active ∨ s.dli.line = .silent ∨ s.eval.congested = true ∨
      maskHasDeck m s.conf.deck = false ∨ lags k s.tally.callNumber = true) := by
  simp [State.turnsAway, or_assoc]

/-- A CALL turned away is at most noted in the round record (R65, R66). -/
theorem exec_call_turned {p : CallPayload} (hh : s.Hears h (.call p)) (hr : s.conf.role = .bay) :
    ((s.caughtUp h).eval.roundRecord.isNew p.round = false →
      ∃ t, exec (.call h p) s = .next t ∧ Heard h s (s.caughtUp h) t) ∧
    ((s.caughtUp h).eval.roundRecord.isNew p.round = true →
      (s.caughtUp h).turnsAway h.callNumber p.deckMask = true →
      ∃ t, exec (.call h p) s = .next t ∧
        Heard h s { s.caughtUp h with eval := { (s.caughtUp h).eval with
          roundRecord := (s.caughtUp h).eval.roundRecord.set p.round.ramp p.round.seq } } t) := by
  refine ⟨fun hn => ?_, fun hn ht => ?_⟩
  · obtain ⟨t, ht, hheard⟩ := event_ignored (take := State.atBay (State.takeCall h.callNumber p)) hh
      ((atBay_bay (caughtUp_role hr)).trans (by
        unfold State.takeCall
        exact if_neg (by rw [show ((s.caughtUp h).setHanded (s.caughtHanded h)).eval.roundRecord.isNew
          p.round = false from hn]; exact Bool.false_ne_true)))
    exact ⟨t, congrArg Host.Outcome.next ht, hheard⟩
  · obtain ⟨t, ht, hheard⟩ := event_atBay (v := { s.caughtUp h with
      eval := { (s.caughtUp h).eval with
        roundRecord := (s.caughtUp h).eval.roundRecord.set p.round.ramp p.round.seq } })
      (take := State.takeCall h.callNumber p) hh hr (by
        unfold State.takeCall
        refine (if_pos (show ((s.caughtUp h).setHanded (s.caughtHanded h)).eval.roundRecord.isNew
          p.round = true from hn)).trans ?_
        exact if_pos ht) (caughtUp_configured hh.1) caughtUp_conf
          caughtUp_retained rfl
    exact ⟨t, congrArg Host.Outcome.next ht, hheard⟩

/-- Settles O37: a CALL by the two tests before its admission, and a frame of any kind by the three guards of
its reception. -/
theorem callTurnedAway : Obligations.CallTurnedAway := by
  refine ⟨fun s h p => ⟨fun hh hr => ?_, fun hh hr => ?_⟩, fun s c h p hc => ⟨?_, ?_, ?_⟩⟩
  · obtain ⟨hold, hnew⟩ := exec_call_turned hh hr
    exact ⟨hold, fun hn ht => hnew hn ((turnsAway_iff _ _ _).2 ht)⟩
  · obtain ⟨t, ht, hheard⟩ := event_atBay_ramp (take := State.takeCall h.callNumber p) hh hr
    exact ⟨t, congrArg Host.Outcome.next ht, hheard⟩
  · intro hnot
    obtain ⟨take, htake⟩ := exec_frame hc
    refine (htake s).trans (congrArg Host.Outcome.next (event_unmoved (if_neg fun hg => ?_)))
    rcases hnot with hnot | hnot
    · exact hnot hg.1
    · exact hnot (of_decide_eq_true hg.2)
  · intro hconf hcheck hmal
    obtain ⟨take, htake⟩ := exec_frame hc
    have hact : State.receive h p take s.unmoved =
        { s.unmoved with out := { s.out with acks := s.out.acks + 1 } } := by
      unfold State.receive
      refine (if_pos (show s.unmoved.Configured ∧ frameAgrees h p = true from
        ⟨hconf, decide_eq_true hcheck⟩)).trans ?_
      rw [frameWellFormed_false hmal]
      rfl
    exact (htake s).trans (congrArg Host.Outcome.next
      ((State.event_of_clear (congrArg State.handed hact :)).trans hact))
  · intro hform hcls hlen hsource hwell
    exact (frameWellFormed_iff h p).2 ⟨hform, hcls, hlen, (isNodeSource_iff _).2 hsource,
      (wellFormed_iff h p).2 hwell⟩

/-! ## OFFERs at a ramp -/

theorem takesOffer_iff (source k : Byte) (p : OfferPayload) (o : OpenRound) (s : State) :
    s.takesOffer source k p o = true ↔
      p.round = o.round ∧ lags k s.tally.callNumber = false ∧ 1 ≤ p.bay.toNat ∧ p.bay.toNat ≤ 48 ∧
        p.bay = source ∧ maskHasDeck o.deckMask p.deck.toNat = true ∧ p.lane.toNat ≤ 7 ∧
        p.score.toNat ≤ 256 ∧ ∀ x ∈ o.offers, x.bay ≠ p.bay := by
  simp [State.takesOffer, and_assoc]

/-- Settles O39, by the tests of R84. -/
theorem offerTaken : Obligations.OfferTaken := by
  intro s h p hh
  have hrounds : ((s.caughtUp h).setHanded (s.caughtHanded h)).rounds = (s.caughtUp h).rounds := rfl
  refine ⟨fun hr o ho h1 h2 h3 h4 h5 h6 h7 h8 h9 => ?_, fun hnot => ?_⟩
  · have htakes : (s.caughtUp h).takesOffer h.source h.callNumber p o = true :=
      (takesOffer_iff _ _ _ _ _).2 ⟨h1, h2, h3, h4, h5, h6, h7, h8, h9⟩
    obtain ⟨t, ht, hheard⟩ := event_heard (s := s) (h := h)
      (f := State.receive h (.offer p) (State.atRamp (State.takeOffer h.source h.callNumber p)))
      (v := { s.caughtUp h with rounds := { (s.caughtUp h).rounds with
              openRound := some { o with
                offers := o.offers ++
                  [{ bay := p.bay, deck := p.deck, lane := p.lane, score := p.score.toNat }] } } })
      ((receive_heard hh).trans ((atRamp_ramp (caughtUp_role hr)).trans (by
        unfold State.takeOffer
        rw [hrounds, ho]
        exact if_pos htakes))) (caughtUp_configured hh.1) caughtUp_conf
          caughtUp_retained rfl
    exact ⟨t, congrArg Host.Outcome.next ht, hheard⟩
  · suffices hi : State.atRamp (State.takeOffer h.source h.callNumber p)
        ((s.caughtUp h).setHanded (s.caughtHanded h)) = (s.caughtUp h).setHanded (s.caughtHanded h) by
      obtain ⟨t, ht, hheard⟩ := event_ignored hh hi
      exact ⟨t, congrArg Host.Outcome.next ht, hheard⟩
    cases hr : s.conf.role with
    | bay => exact atRamp_bay (caughtUp_role hr)
    | ramp =>
      refine (atRamp_ramp (caughtUp_role hr)).trans ?_
      unfold State.takeOffer
      rw [hrounds]
      cases ho : (s.caughtUp h).rounds.openRound with
      | none => rfl
      | some o =>
        refine if_neg fun htakes => ?_
        obtain ⟨h1, h2, h3, h4, h5, h6, h7, h8, h9⟩ :=
          (takesOffer_iff _ _ _ _ (s.caughtUp h)).1 htakes
        rcases hnot with hb | hn | ⟨o', ho', hfail⟩
        · exact Role.noConfusion (hr.symm.trans hb)
        · exact absurd (ho.symm.trans hn) (Option.some_ne_none o)
        · obtain rfl := Option.some.inj (ho.symm.trans ho')
          rcases hfail with hf | hf | hf | hf | hf | hf | hf | hf | ⟨x, hx, hf⟩
          · exact hf h1
          · exact Bool.noConfusion (h2.symm.trans hf)
          · omega
          · omega
          · exact hf h5
          · exact Bool.noConfusion (h6.symm.trans hf)
          · omega
          · omega
          · exact h9 x hx hf

/-! ## Answers of bays at a ramp -/

/-- The state with a dispatched entry reported and removed (R110, R111). -/
def State.reported (sel : DispatchedEntry → Bool) (booking : Nat) (e : Verdict) (u : State) : State :=
  { u with
    rounds := { u.rounds with dispatched := u.rounds.dispatched.eraseP sel }
    out := { u.out with gate := u.out.gate ++ [{ booking := booking, verdict := e }] } }

/-- A cancelled entry returned to the head of the waiting queue (R110, R113). -/
def State.returnedToHead (sel : DispatchedEntry → Bool) (d : DispatchedEntry) (e : Verdict) (u : State) :
    State :=
  { u with
    rounds := { u.rounds with
      dispatched := u.rounds.dispatched.eraseP sel
      waiting := { arrival := d.arrival, attempts := d.attempts, notBefore := none, called := false } ::
        u.rounds.waiting
      hold := Machine.gate u.conf.holdHigh u.conf.holdLow (u.rounds.waiting.length + 1) u.rounds.hold }
    out := { u.out with gate := u.out.gate ++ [{ booking := d.arrival.booking, verdict := e }] } }

/-- A cancelled entry SHUT OUT (R110). -/
def State.shutOutCancelled (sel : DispatchedEntry → Bool) (d : DispatchedEntry) (e : Verdict) (u : State) :
    State :=
  { u with
    rounds := { u.rounds with dispatched := u.rounds.dispatched.eraseP sel }
    out := { u.out with gate := u.out.gate ++ [{ booking := d.arrival.booking, verdict := e }] ++
      [{ booking := d.arrival.booking, verdict := .shutOut .queueFull }] } }

/-- A dispatched entry cancelled with room in the waiting queue returns to its head, where R82 looks (R110). -/
theorem cancelDispatched_returns {u : State} {H : HandedOn} {r : RoundId} {bay : Byte}
    {reason : CancelReason} {d : DispatchedEntry}
    (hd : u.rounds.dispatched.find? (DispatchedEntry.isFor r bay) = some d)
    (hroom : u.rounds.waiting.length < Config.maxWaiting) :
    (u.setHanded H).cancelDispatched r bay reason =
      (u.returnedToHead (DispatchedEntry.isFor r bay) d (.cancelled reason)).setHanded
        { H with look := true } := by
  unfold State.cancelDispatched
  rw [show (u.setHanded H).rounds.dispatched.find? (DispatchedEntry.isFor r bay) = some d from hd]
  refine (if_pos hroom).trans ?_
  cases u
  rfl

/-- A dispatched entry cancelled with 16 waiting is SHUT OUT (R110). -/
theorem cancelDispatched_shutOut {u : State} {H : HandedOn} {r : RoundId} {bay : Byte}
    {reason : CancelReason} {d : DispatchedEntry}
    (hd : u.rounds.dispatched.find? (DispatchedEntry.isFor r bay) = some d)
    (hfull : ¬ u.rounds.waiting.length < Config.maxWaiting) :
    (u.setHanded H).cancelDispatched r bay reason =
      (u.shutOutCancelled (DispatchedEntry.isFor r bay) d (.cancelled reason)).setHanded H := by
  unfold State.cancelDispatched
  rw [show (u.setHanded H).rounds.dispatched.find? (DispatchedEntry.isFor r bay) = some d from hd]
  refine (if_neg hfull).trans ?_
  cases u
  rfl

/-- A frame of a ramp's whose block asks for the look (R82). -/
theorem event_heard_look {f : State → State} (hr : s.conf.role = .ramp)
    (hw : f s.unmoved = v.setHanded { s.caughtHanded h with look := true })
    (hv : v.IsRamp) : ∃ t, s.event f = t ∧ Looked (s.behind h) v t := by
  have hb : s.caughtBay h = false := by
    unfold State.caughtBay
    rw [hr]
    exact Bool.and_false _
  have hl : s.caughtLanes h = [] := by
    unfold State.caughtLanes
    rw [hr]
    exact if_neg fun k => Role.noConfusion k.2
  obtain ⟨t, ht, hlook⟩ := event_ramp_quiet hw hv hb hl hb rfl
  exact ⟨t, ht, (show Looked (s.behind h) (v.setHanded _) t from hlook).setHanded⟩

/-- A DECLINE taken at a ramp whose dispatched list holds the entry of its round and source. -/
theorem receive_decline {p : DeclinePayload} (hh : s.Hears h (.decline p))
    (hr : s.conf.role = .ramp) (hown : p.round.ramp = BitVec.ofNat 8 (s.caughtUp h).conf.rampId) :
    State.receive h (.decline p) (State.atRamp (State.takeDecline h.source p)) s.unmoved =
      ((s.caughtUp h).setHanded (s.caughtHanded h)).cancelDispatched p.round h.source
        (.declined p.reason) := by
  refine (receive_heard hh).trans ((atRamp_ramp (caughtUp_role hr)).trans ?_)
  unfold State.takeDecline
  exact if_pos (decide_eq_true hown)

/-- A DECLINE of a dispatched entry of its round and source (R110). -/
theorem exec_decline_named {p : DeclinePayload} {d : DispatchedEntry} (hh : s.Hears h (.decline p))
    (hr : s.conf.role = .ramp) (hown : p.round.ramp = BitVec.ofNat 8 (s.caughtUp h).conf.rampId)
    (hd : (s.caughtUp h).rounds.dispatched.find? (DispatchedEntry.isFor p.round h.source) = some d) :
    ((s.caughtUp h).rounds.waiting.length < 16 →
      ∃ t, exec (.decline h p) s = .next t ∧
        Looked (s.behind h) ((s.caughtUp h).returnedToHead (DispatchedEntry.isFor p.round h.source) d
          (.cancelled (.declined p.reason))) t) ∧
    (16 ≤ (s.caughtUp h).rounds.waiting.length →
      ∃ t, exec (.decline h p) s = .next t ∧
        Heard h s ((s.caughtUp h).shutOutCancelled (DispatchedEntry.isFor p.round h.source) d
          (.cancelled (.declined p.reason))) t) := by
  have hconf := caughtUp_configured (h := h) hh.1
  have hrole : (s.caughtUp h).conf.role = .ramp := (congrArg Conf.role caughtUp_conf).trans hr
  have hact := receive_decline hh hr hown
  refine ⟨fun hroom => ?_, fun hfull => ?_⟩
  · obtain ⟨t, ht, hlook⟩ := event_heard_look hr
      (hact.trans (cancelDispatched_returns hd hroom)) ⟨hconf, hrole⟩
    exact ⟨t, congrArg Host.Outcome.next ht, hlook⟩
  · obtain ⟨t, ht, hheard⟩ := event_heard
      (hact.trans (cancelDispatched_shutOut hd (not_lt.2 hfull))) hconf caughtUp_conf
      caughtUp_retained rfl
    exact ⟨t, congrArg Host.Outcome.next ht, hheard⟩

/-- A DECLINE that names no dispatched entry of this ramp is not acted on (R110). -/
theorem takeDecline_none {source : Byte} {p : DeclinePayload}
    (hn : p.round.ramp = BitVec.ofNat 8 s.conf.rampId →
      s.rounds.dispatched.find? (DispatchedEntry.isFor p.round source) = none) :
    s.takeDecline source p = s := by
  unfold State.takeDecline
  split
  · rename_i hown
    unfold State.cancelDispatched
    rw [hn (of_decide_eq_true hown)]
  · rfl

/-- A PLACED frame or a MISSING notice of a dispatched entry reports and removes it (R111). -/
theorem takeArrived_named {r : RoundId} {source : Byte} {booking : BookingWord} {e : Verdict}
    (hown : r.ramp = BitVec.ofNat 8 s.conf.rampId)
    (ha : s.rounds.dispatched.any (DispatchedEntry.answeredBy r source booking) = true) :
    s.takeArrived r source booking e =
      s.reported (DispatchedEntry.answeredBy r source booking) booking.toNat e := by
  obtain ⟨d, hd⟩ := Option.isSome_iff_exists.1 (List.find?_isSome.2 (List.any_eq_true.1 ha))
  have hb : d.arrival.booking = booking.toNat := by
    have := List.find?_some hd
    unfold DispatchedEntry.answeredBy at this
    exact of_decide_eq_true (Bool.and_eq_true_iff.1 this).2
  unfold State.takeArrived
  rw [if_pos (show s.ownRound r = true from decide_eq_true hown), hd]
  dsimp only
  rw [hb]
  rfl

/-- One that names no dispatched entry of this ramp is not acted on (R111). -/
theorem takeArrived_none {r : RoundId} {source : Byte} {booking : BookingWord} {e : Verdict}
    (hn : r.ramp = BitVec.ofNat 8 s.conf.rampId →
      s.rounds.dispatched.any (DispatchedEntry.answeredBy r source booking) = false) :
    s.takeArrived r source booking e = s := by
  unfold State.takeArrived
  split
  · rename_i hown
    rw [List.find?_eq_none.2 fun d hd hs => ?_]
    exact List.any_eq_false.1 (hn (of_decide_eq_true hown)) d hd hs
  · rfl

/-- An ARRIVED answer of a dispatched entry, or one that names none (R111). -/
theorem event_arrived {r : RoundId} {booking : BookingWord} {e : Verdict} {p : Payload}
    (hh : s.Hears h p) :
    let sel (d : DispatchedEntry) : Bool :=
      decide (r.ramp = BitVec.ofNat 8 (s.caughtUp h).conf.rampId) && decide (d.round = r) &&
        decide (d.bay = h.source) && decide (d.arrival.booking = booking.toNat)
    (s.conf.role = .ramp → (s.caughtUp h).rounds.dispatched.any sel = true →
      ∃ t, s.event (State.receive h p (State.atRamp (State.takeArrived r h.source booking e))) = t ∧
        Heard h s ((s.caughtUp h).reported sel booking.toNat e) t) ∧
    (s.conf.role = .bay ∨ (s.caughtUp h).rounds.dispatched.any sel = false →
      ∃ t, s.event (State.receive h p (State.atRamp (State.takeArrived r h.source booking e))) = t ∧
        Heard h s (s.caughtUp h) t) := by
  intro sel
  have hsel (hown : r.ramp = BitVec.ofNat 8 (s.caughtUp h).conf.rampId) :
      sel = DispatchedEntry.answeredBy r h.source booking := by
    funext d
    unfold sel DispatchedEntry.answeredBy DispatchedEntry.isFor
    rw [decide_eq_true hown, Bool.true_and]
  refine ⟨fun hr ha => ?_, fun hnot => ?_⟩
  · have hown : r.ramp = BitVec.ofNat 8 (s.caughtUp h).conf.rampId := by
      obtain ⟨d, _, hd⟩ := List.any_eq_true.1 ha
      unfold sel at hd
      simp only [Bool.and_eq_true, decide_eq_true_eq] at hd
      exact hd.1.1.1
    rw [hsel hown] at ha ⊢
    have htake : State.takeArrived r h.source booking e
        ((s.caughtUp h).setHanded (s.caughtHanded h)) =
          ((s.caughtUp h).reported (DispatchedEntry.answeredBy r h.source booking) booking.toNat
            e).setHanded (s.caughtHanded h) := takeArrived_named hown ha
    exact event_heard ((receive_heard hh).trans
      ((atRamp_ramp (caughtUp_role hr)).trans htake)) (caughtUp_configured hh.1)
      caughtUp_conf caughtUp_retained rfl
  · cases hr : s.conf.role with
    | bay => exact event_atRamp_bay hh hr
    | ramp =>
      have hnone := hnot.resolve_left fun hb => Role.noConfusion (hr.symm.trans hb)
      refine event_ignored hh ((atRamp_ramp (caughtUp_role hr)).trans
        (takeArrived_none fun hown => ?_))
      rw [hsel hown] at hnone
      exact hnone

/-- Settles O42: a DECLINE, a PLACED frame and a MISSING notice each by the entry it names, or none. -/
theorem answersOfBays : Obligations.AnswersOfBays := by
  refine ⟨fun s h p hh => ⟨fun hr d hd => ?_, fun hnot => ?_⟩, fun s h p m =>
    ⟨fun hh hr ha => ?_, fun hh hnot => ?_, fun hh hr ha => ?_, fun hh hnot => ?_⟩⟩
  · have hown : p.round.ramp = BitVec.ofNat 8 (s.caughtUp h).conf.rampId := by
      have hs := List.find?_some hd
      simp only [Bool.and_eq_true, decide_eq_true_eq] at hs
      exact hs.1.1
    have hsel : (fun d : DispatchedEntry =>
        decide (p.round.ramp = BitVec.ofNat 8 (s.caughtUp h).conf.rampId) && decide (d.round = p.round) &&
          decide (d.bay = h.source)) = DispatchedEntry.isFor p.round h.source := by
      funext d
      rw [decide_eq_true hown, Bool.true_and]
      rfl
    dsimp only at hd ⊢
    rw [hsel] at hd ⊢
    obtain ⟨hroom, hfull⟩ := exec_decline_named hh hr hown hd
    refine ⟨fun hlen => ?_, fun hlen => ?_⟩
    · obtain ⟨t, ht, hlook⟩ := hroom hlen
      refine ⟨t, ht, ?_⟩
      generalize s.caughtUp h = u at hlook ⊢
      cases u
      exact hlook
    · obtain ⟨t, ht, hheard⟩ := hfull hlen
      refine ⟨t, ht, ?_⟩
      exact hheard
  · suffices hi : State.atRamp (State.takeDecline h.source p)
        ((s.caughtUp h).setHanded (s.caughtHanded h)) = (s.caughtUp h).setHanded (s.caughtHanded h) by
      obtain ⟨t, ht, hheard⟩ := event_ignored hh hi
      exact ⟨t, congrArg Host.Outcome.next ht, hheard⟩
    cases hr : s.conf.role with
    | bay => exact atRamp_bay (caughtUp_role hr)
    | ramp =>
      have hnone := hnot.resolve_left fun hb => Role.noConfusion (hr.symm.trans hb)
      refine (atRamp_ramp (caughtUp_role hr)).trans (takeDecline_none fun hown => ?_)
      refine List.find?_eq_none.2 fun d hd hs => List.any_eq_false.1 hnone d hd ?_
      have hown : p.round.ramp = BitVec.ofNat 8 (s.caughtUp h).conf.rampId := hown
      rw [decide_eq_true hown, Bool.true_and]
      exact hs
  · obtain ⟨t, ht, hheard⟩ := (event_arrived hh).1 hr ha
    exact ⟨t, congrArg Host.Outcome.next ht, hheard⟩
  · obtain ⟨t, ht, hheard⟩ := (event_arrived hh).2 hnot
    exact ⟨t, congrArg Host.Outcome.next ht, hheard⟩
  · obtain ⟨t, ht, hheard⟩ := (event_arrived hh).1 hr ha
    exact ⟨t, congrArg Host.Outcome.next ht, hheard⟩
  · obtain ⟨t, ht, hheard⟩ := (event_arrived hh).2 hnot
    exact ⟨t, congrArg Host.Outcome.next ht, hheard⟩

/-! ## The peer table -/

theorem acceptsTally_iff (p : TallyPayload) (ps : List PeerEntry) : acceptsTally p ps = true ↔
    p.nodeState = 1 ∨ ∀ e, peer? p.bay ps = some e → leads p.seq e.tally.seq = true := by
  unfold acceptsTally
  cases peer? p.bay ps with
  | none => simp
  | some e => simp [TallyPayload.fromListen]

/-- The evaluator after the restart of a catch-up made at once (R72, R148). -/
def State.heardEval (h : RxHeader) (s : State) : Evaluator :=
  { (s.caughtUp h).eval with
    inFlight := if s.caughtBay h = true then
        (s.caughtUp h).eval.inFlight.map fun e =>
          { e with snapshot := (s.caughtUp h).snapshot, restarts := e.restarts + 1 }
      else (s.caughtUp h).eval.inFlight }

theorem settleRestart_heard (h : RxHeader) (s : State) :
    ((s.caughtUp h).setHanded (s.caughtHanded h)).settleRestart =
      { s.caughtUp h with
        eval := s.heardEval h, handed := { s.caughtHanded h with restart := false } } := by
  unfold State.settleRestart State.heardEval
  cases hb : s.caughtBay h with
  | false =>
    refine (if_neg (show ¬ (s.caughtHanded h).restart = true from
      Bool.eq_false_iff.1 hb)).trans ?_
    refine congrArg (fun r => (s.caughtUp h).setHanded { s.caughtHanded h with restart := r }) ?_
    exact hb
  | true =>
    refine (if_pos (show (s.caughtHanded h).restart = true from hb)).trans ?_
    unfold State.restartEvaluation
    rw [show ((s.caughtUp h).setHanded (s.caughtHanded h)).eval.inFlight =
      (s.caughtUp h).eval.inFlight from rfl]
    cases hf : (s.caughtUp h).eval.inFlight with
    | none =>
      refine Eq.trans ?_ (congrArg (fun f => ({ s.caughtUp h with
        eval := { (s.caughtUp h).eval with inFlight := f }
        handed := { s.caughtHanded h with restart := false } } : State)) hf)
      rfl
    | some e => rfl

/-- A frame whose block is taken after the restart of its catch-up. -/
theorem event_heard_settled {f : State → State} {T : TallyUnit}
    (hw : f s.unmoved = { s.caughtUp h with
      eval := s.heardEval h, tally := T, handed := { s.caughtHanded h with restart := false } })
    (hb : s.IsBay) : ∃ t, s.event f = t ∧ Heard h s { s.caughtUp h with tally := T } t := by
  obtain ⟨t, ht, he⟩ := event_bay hw
    ⟨caughtUp_configured hb.1, (congrArg Conf.role caughtUp_conf).trans hb.2⟩ (.inl rfl)
  refine ⟨t, ht, he.still rfl, he.copied caughtUp_retained rfl rfl (Bool.or_false _), ?_⟩
  exact (congrArg (fun u : State => { u with
    eval := (s.caughtUp h).eval, handed := (s.caughtUp h).handed }) (he.frame_quiet rfl rfl) :)

/-- TALLY at a bay (R141). -/
theorem exec_tally_bay {p : TallyPayload} (hh : s.Hears h (.tally p)) (hr : s.conf.role = .bay) :
    if 1 ≤ p.bay.toNat ∧ p.bay.toNat ≤ 48 ∧ p.bay = h.source ∧
        (p.nodeState = 1 ∨
          ∀ e, peer? p.bay (s.caughtUp h).tally.peers = some e → leads p.seq e.tally.seq = true)
    then
      ∃ t, exec (.tally h p) s = .next t ∧
        Heard h s { s.caughtUp h with tally := { (s.caughtUp h).tally with
          peers := putPeer
            { tally := p, acceptedAt := s.now, withdrawn := decide (p.nodeState = 4) }
            (s.caughtUp h).tally.peers } } t
    else ∃ t, exec (.tally h p) s = .next t ∧ Heard h s (s.caughtUp h) t := by
  have hact : State.receive h (.tally p) (State.atBay (State.takeTallyFrame h.source p)) s.unmoved =
      State.takeTally h.source p { s.caughtUp h with
        eval := s.heardEval h, handed := { s.caughtHanded h with restart := false } } := by
    refine (receive_heard hh).trans ((atBay_bay (caughtUp_role hr)).trans ?_)
    unfold State.takeTallyFrame
    rw [settleRestart_heard]
  unfold State.takeTally at hact
  have haccepts := acceptsTally_iff p (s.caughtUp h).tally.peers
  split
  · rename_i ha
    obtain ⟨h1, h48, hsource, hnew⟩ := ha
    have hput := hact.trans (if_pos ⟨h1, h48, hsource, haccepts.2 hnew⟩)
    have hentry : TallyPayload.entry (s.caughtUp h).now p =
        { tally := p, acceptedAt := s.now, withdrawn := decide (p.nodeState = 4) } := by
      rw [caughtUp_now]
      rfl
    obtain ⟨t, ht, hheard⟩ := event_heard_settled (T := { (s.caughtUp h).tally with
      peers := putPeer (TallyPayload.entry (s.caughtUp h).now p) (s.caughtUp h).tally.peers }) hput ⟨hh.1, hr⟩
    rw [hentry] at hheard
    exact ⟨t, congrArg Host.Outcome.next ht, hheard⟩
  · rename_i ha
    have hkept := hact.trans (if_neg fun hg => ha
      ⟨hg.1, hg.2.1, hg.2.2.1, haccepts.1 hg.2.2.2⟩)
    obtain ⟨t, ht, hheard⟩ := event_heard_settled hkept ⟨hh.1, hr⟩
    exact ⟨t, congrArg Host.Outcome.next ht, hheard⟩

/-- The ship estimate does not read the WITHDRAWN marks of the peers (R51, R142). -/
theorem otherPeers_marked (own : Nat) (source : Byte) (g : TallyPayload → Int) (ps : List PeerEntry) :
    (otherPeers own (ps.map fun e => if e.tally.bay = source then { e with withdrawn := true } else e)).map
      (fun p => g p.tally) = (otherPeers own ps).map fun p => g p.tally := by
  have hkept (e : PeerEntry) :
      (if e.tally.bay = source then { e with withdrawn := true } else e).tally = e.tally := by
    split <;> rfl
  unfold otherPeers
  induction ps with
  | nil => rfl
  | cons e ps ih =>
    rw [List.map_cons, List.filter_cons, List.filter_cons, hkept]
    split
    · rw [List.map_cons, List.map_cons, hkept, ih]
    · exact ih

/-- NOTICE WITHDRAWN at a bay (R142). -/
theorem exec_noticeWithdrawn_bay (hh : s.Hears h .noticeWithdrawn) (hr : s.conf.role = .bay) :
    ∃ t, exec (.noticeWithdrawn h) s = .next t ∧
      Heard h s { s.caughtUp h with tally := { (s.caughtUp h).tally with
        peers := (s.caughtUp h).tally.peers.map fun e =>
          if e.tally.bay = h.source then { e with withdrawn := true } else e } } t := by
  obtain ⟨t, ht, hheard⟩ := event_atBay (v := { s.caughtUp h with
      tally := { (s.caughtUp h).tally with
        peers := (s.caughtUp h).tally.peers.map fun e =>
          if e.tally.bay = h.source then { e with withdrawn := true } else e } })
    (take := State.markWithdrawn h.source) hh hr rfl (caughtUp_configured hh.1)
    caughtUp_conf caughtUp_retained (by
      unfold State.snapshot State.estimateT State.estimateL
      dsimp only
      rw [otherPeers_marked _ _ fun q => q.mt.toInt, otherPeers_marked _ _ fun q => q.ml.toInt])
  exact ⟨t, congrArg Host.Outcome.next ht, hheard⟩

/-- Settles O43. -/
theorem peerTableKept : Obligations.PeerTableKept := by
  intro s h p bay
  refine ⟨⟨exec_tally_bay, fun hh hr => ?_, exec_noticeWithdrawn_bay, fun hh hr => ?_⟩,
    fun hb e he => ⟨?_, ?_⟩, fun hb hnone => ?_⟩
  · obtain ⟨t, ht, hheard⟩ := event_atBay_ramp (take := State.takeTallyFrame h.source p) hh hr
    exact ⟨t, congrArg Host.Outcome.next ht, hheard⟩
  · obtain ⟨t, ht, hheard⟩ := event_atBay_ramp (take := State.markWithdrawn h.source) hh hr
    exact ⟨t, congrArg Host.Outcome.next ht, hheard⟩
  · have hact : (if s.unmoved.IsBay then s.unmoved.takePeerStale bay else s.unmoved) =
        { s.unmoved with now := max s.now (e.acceptedAt + 30001) } := by
      refine (if_pos (show s.unmoved.IsBay from hb)).trans ?_
      unfold State.takePeerStale
      rw [show s.unmoved.tally.peers.find? (fun e => decide (e.tally.bay.toNat = bay)) = some e from he]
      rfl
    exact congrArg Host.Outcome.next ((State.event_of_clear
      (f := fun s => if s.IsBay then s.takePeerStale bay else s)
      (congrArg State.handed hact :)).trans hact)
  · unfold PeerEntry.stale
    simp
  · refine congrArg Host.Outcome.next (event_unmoved
      ((if_pos (show s.unmoved.IsBay from hb)).trans ?_))
    unfold State.takePeerStale
    rw [List.find?_eq_none.2 fun e he hs => hnone e he (of_decide_eq_true hs)]

end Sys2Proof.Machine
end

section
/-! PROOFS. Any number of port advances in closed form, and PORTCALL (R144 to R148). -/

namespace Sys2Proof.Machine

open Sys2Proof

variable {s w t v : State} {h : RxHeader}

/-! ## Port advances in closed form -/

/-- An arrival after `d` port advances (R147). -/
def Arrival.lowered (d : Nat) (a : Arrival) : Arrival := { a with rank := a.rank - d }

/-- A placed record after `d` port advances: flagged when its rank was lower than that (R147). -/
def Record.lowered (d : Nat) (r : Record) : Record :=
  match r.rank with
  | none => r
  | some k =>
    { r with
      rank := some (k - d)
      flags := if k < d ∧ Flag.overcarried ∉ r.flags then r.flags ++ [.overcarried] else r.flags }

theorem Arrival.lowered_advance (d : Nat) (a : Arrival) : a.advance.lowered d = a.lowered (d + 1) := by
  unfold Arrival.lowered Arrival.advance
  rw [Nat.sub_sub, Nat.add_comm]

theorem lowered_zero (r : Record) : r.lowered 0 = r := by
  unfold Record.lowered
  cases hr : r.rank with
  | none => rfl
  | some k =>
    dsimp only
    rw [if_neg fun h => Nat.not_lt_zero k h.1, Nat.sub_zero, ← hr]

theorem Record.lowered_advance (d : Nat) (r : Record) : r.advance.lowered d = r.lowered (d + 1) := by
  unfold Record.advance
  cases hr : r.rank with
  | none => simp [Record.lowered, hr]
  | some k =>
    cases k with
    | zero =>
      by_cases hf : Flag.overcarried ∈ r.flags <;> simp [Record.lowered, hr, addFlag, hf]
    | succ k => simp [Record.lowered, hr]

theorem LaneTable.advances_eq (d : Nat) (t : LaneTable) :
    LaneTable.advance^[d] t =
      { lanes := t.lanes.map fun l => { l with placed := l.placed.map (Record.lowered d) }
        reservations := t.reservations.map fun r => { r with arrival := r.arrival.lowered d }
        inbound := t.inbound.map fun e => { e with arrival := e.arrival.lowered d } } := by
  induction d generalizing t with
  | zero =>
    have hl (l : Lane) : ({ l with placed := l.placed.map (Record.lowered 0) } : Lane) = l := by
      rw [show Record.lowered 0 = id from funext lowered_zero, List.map_id]
    exact congr (congr (congrArg LaneTable.mk ((List.map_congr_left fun l _ => hl l).trans
      (List.map_id _)).symm) (List.map_id _).symm) (List.map_id _).symm
  | succ d ih =>
    rw [Function.iterate_succ_apply, ih]
    unfold LaneTable.advance
    simp only [List.map_map, Function.comp_def, Record.lowered_advance, Arrival.lowered_advance]

/-- A queued CALL after `d` port advances (R147). -/
def QueuedCall.lowered (d : Nat) (c : QueuedCall) : QueuedCall := { c with arrival := c.arrival.lowered d }

theorem Evaluator.advances_eq (d : Nat) (e : Evaluator) :
    Evaluator.advance^[d] e =
      { e with
        callQueue := e.callQueue.map (QueuedCall.lowered d)
        inFlight := e.inFlight.map fun v => { v with call := v.call.lowered d } } := by
  induction d generalizing e with
  | zero =>
    simp only [show QueuedCall.lowered 0 = id from rfl, List.map_id, id_eq, Option.map_id']
    rfl
  | succ d ih =>
    have hcall (c : QueuedCall) : c.advance.lowered d = c.lowered (d + 1) := by
      unfold QueuedCall.lowered QueuedCall.advance
      rw [Arrival.lowered_advance]
    rw [Function.iterate_succ_apply, ih]
    unfold Evaluator.advance
    simp only [List.map_map, Option.map_map, Function.comp_def, hcall]

theorem overcarriedIn_eq (d : Nat) (t : LaneTable) :
    overcarriedIn d t = (List.range d).flatMap fun k => t.lanes.flatMap fun l =>
      (l.placed.filter fun r => r.rank.any fun n => decide (n ≤ k)).map fun _ => l.number := by
  induction d generalizing t with
  | zero => rfl
  | succ d ih =>
    have hfirst : Record.overcarriedNow = fun r => r.rank.any fun n => decide (n ≤ 0) := by
      funext r
      unfold Record.overcarriedNow
      cases r.rank <;> simp
    have hnext (k : Nat) (r : Record) : (r.advance.rank.any fun n => decide (n ≤ k)) =
        r.rank.any fun n => decide (n ≤ k + 1) := by
      unfold Record.advance
      rcases hr : r.rank with _ | _ | n <;> simp [hr]
    rw [overcarriedIn, ih, List.range_succ_eq_map, List.flatMap_cons, List.flatMap_map]
    unfold LaneTable.overcarriedLanes LaneTable.advance
    simp only [List.flatMap_map, List.filter_map, List.map_map, Function.comp_def, hfirst, hnext,
      Nat.succ_eq_add_one]

/-! ## PORTCALL -/

/-- The state of a bay after a leading call number, its evaluation not yet restarted (R145, R147, R148). -/
def State.portsPassed (k : Byte) (s : State) : State :=
  { s with
    table := LaneTable.advance^[(k - s.tally.callNumber).toNat] s.table
    eval := Evaluator.advance^[(k - s.tally.callNumber).toNat] s.eval
    tally := { s.tally with callNumber := k }
    conditions := raiseAll s.now ((overcarriedIn (k - s.tally.callNumber).toNat
      s.table).map fun n => (.overcarried, some n)) s.conditions }

theorem catchUp_bay_ends {k : Byte} (hk : leads k s.tally.callNumber = true)
    (hr : s.conf.role = .bay) : ∃ H, s.catchUp k = (s.portsPassed k).setHanded H := by
  have hhand : ∃ H, s.handRestart.handAllLanes.handInbound.handNode = s.setHanded H := ⟨_, rfl⟩
  obtain ⟨H, hH⟩ := hhand
  refine ⟨H, ?_⟩
  rw [catchUp_bay_eq hk hr, hH, portAdvances_eq]
  cases s
  rfl

theorem caughtUp_bay (hk : leads h.callNumber s.tally.callNumber = true) (hr : s.conf.role = .bay) :
    (s.caughtUp h).setHanded (s.caughtHanded h) =
      (s.acknowledge.portsPassed h.callNumber).setHanded (s.caughtHanded h) := by
  obtain ⟨H, hu⟩ := catchUp_bay_ends (s := s.acknowledge) hk hr
  show (s.acknowledge.catchUp h.callNumber).setHanded _ = _
  rw [hu]
  rfl

/-- OVERCARRIED raised lane number by lane number (R147). -/
theorem raiseAll_overcarried (now : Nat) (ns : List Nat) (cs : List Condition) :
    raiseAll now (ns.map fun n => (.overcarried, some n)) cs =
      ns.foldl (fun cs n => raiseCondition now .overcarried (some n) cs) cs := by
  unfold raiseAll
  rw [List.foldl_map]

/-- An evaluator kept with its restart (R72). -/
theorem EvaluatorKept.restarted (hk : EvaluatorKept true w t) :
    t.eval = { w.eval with
      inFlight := w.eval.inFlight.map fun v =>
        { v with snapshot := t.snapshot, restarts := v.restarts + 1 } } := by
  obtain ⟨hf, he⟩ := hk
  have hf : t.eval.inFlight = _ := (if_pos rfl).mp hf
  rw [← hf]
  exact congrArg (fun e : Evaluator => { e with inFlight := t.eval.inFlight }) he

/-- A leading call number at a bay (R145, R147, R148). -/
theorem exec_portcall_bay {n : Byte} (hh : s.Hears h (.portcall n))
    (hk : leads h.callNumber s.tally.callNumber = true) (hr : s.conf.role = .bay) :
    ∃ t, exec (.portcall h n) s = .next t ∧
      BayEnds ((s.acknowledge.portsPassed h.callNumber).setHanded (s.caughtHanded h)) t := by
  have hact := (receive_heard (take := id) hh).trans (caughtUp_bay hk hr)
  obtain ⟨t, ht, he⟩ := event_bay hact ⟨hh.1, hr⟩ (.inl rfl)
  exact ⟨t, congrArg Host.Outcome.next ht, he⟩

/-- Settles O44. -/
theorem portCallTaken : Obligations.PortCallTaken := by
  intro s h n hh
  refine ⟨fun hk => ?_, fun hk hr => ?_, fun hk hr => ?_⟩
  · have hact : State.receive h (.portcall n) id s.unmoved =
        { s.unmoved with out := { s.out with acks := s.out.acks + 1 } } := by
      unfold State.receive
      refine (if_pos (show s.unmoved.Configured ∧ frameAgrees h (.portcall n) = true from
        ⟨hh.1, hh.2.1⟩)).trans ((if_pos hh.2.2).trans ?_)
      exact catchUp_of_not_leads (s := s.unmoved.acknowledge) hk
    exact congrArg Host.Outcome.next ((State.event_of_clear (congrArg State.handed hact :)).trans hact)
  · have hu : (s.caughtUp h).setHanded (s.caughtHanded h) =
        { s with
          tally := { s.tally with callNumber := h.callNumber }
          out := { s.out with acks := s.out.acks + 1 }
          handed := { HandedOn.clear with node := true } } := by
      have hc := catchUp_ramp_eq (s := s.acknowledge) hk hr
      have hH : s.caughtHanded h = { HandedOn.clear with node := true } := by
        unfold State.caughtHanded State.caughtBay State.caughtLanes State.behind
        rw [hk, hr]
        rfl
      rw [hH]
      exact congrArg (fun u : State => u.setHanded { HandedOn.clear with node := true }) hc
    obtain ⟨t, ht, hcop, hf⟩ := event_ramp_quiet ((receive_heard (take := id) hh).trans hu)
      ⟨hh.1, hr⟩ rfl rfl rfl rfl
    exact ⟨t, congrArg Host.Outcome.next ht, (congrArg State.tally hf :), hcop,
      (congrArg (fun v : State => { v with tally := s.tally, handed := s.handed }) hf :)⟩
  · obtain ⟨t, ht, he⟩ := exec_portcall_bay hh hk hr
    have hH : s.caughtHanded h = { HandedOn.clear with
        restart := true, lanes := s.table.lanes.map (·.number), inbound := true, node := true } := by
      unfold State.caughtHanded State.caughtBay State.caughtLanes State.behind
      rw [hk, hr]
      rfl
    rw [hH] at he
    obtain ⟨hT, hD⟩ := he.uncaused rfl
    have hf := he.frame
    rw [← hD] at hf
    refine ⟨t, ht, hT, ?_, ?_, ?_, he.copied rfl rfl rfl rfl, ?_⟩
    · refine (congrArg State.table hf :).trans ((LaneTable.advances_eq _ _).trans ?_)
      rfl
    · refine he.eval.restarted.trans ?_
      rw [show ((s.acknowledge.portsPassed h.callNumber).setHanded _).eval = _ from
        Evaluator.advances_eq (h.callNumber - s.tally.callNumber).toNat s.eval]
      dsimp only
      rw [Option.map_map]
      rfl
    · refine (congrArg State.conditions hf :).trans ((raiseAll_overcarried _ _ _).trans ?_)
      rw [overcarriedIn_eq]
      rfl
    · exact (congrArg (fun v : State => { v with
        tally := s.tally, table := s.table, eval := s.eval, conditions := s.conditions
        retained := s.retained, handed := s.handed }) hf :)

end Sys2Proof.Machine
end

section
/-! PROOFS. The congestion state following the inbound list, and the events that change that list (O40, O60). -/

namespace Sys2Proof.Machine

open Sys2Proof

variable {s w t u : State} {h : RxHeader}

/-! ## The congestion state (R78, R79) -/

/-- The evaluator as its congestion state becomes `new`: becoming CONGESTED empties it (R78, R79). -/
def Evaluator.following (new : Bool) (e : Evaluator) : Evaluator :=
  { e with
    inFlight := if new && !e.congested then none else e.inFlight
    callQueue := if new && !e.congested then [] else e.callQueue
    congested := new }

/-- With a TALLY handed on already, following the inbound count moves the evaluator alone. -/
theorem followCongestion_eq (ht : s.handed.tally = true) :
    s.followCongestion = s.setEval (s.eval.following
      (Machine.gate s.conf.congestHigh s.conf.congestLow s.table.inbound.length s.eval.congested)) := by
  have hkept : s.handTally = s :=
    (congrArg (fun b => s.setHanded { s.handed with tally := b }) ht.symm :)
  unfold State.followCongestion Evaluator.following
  dsimp only
  generalize Machine.gate _ _ _ _ = new
  have hand (e : Evaluator) : (s.setEval e).handTally = s.setEval e :=
    congrArg (fun v : State => v.setEval e) hkept
  by_cases hc : new = s.eval.congested
  · subst hc
    rw [if_pos rfl, Bool.and_not_self]
    rfl
  · rw [if_neg hc]
    cases hnew : new with
    | true =>
      have hwas : s.eval.congested = false := Bool.eq_false_iff.2 fun h => hc (hnew.trans h.symm)
      rw [if_pos rfl, hand, hwas]
      rfl
    | false =>
      rw [if_neg Bool.false_ne_true, hand]
      rfl

/-- An event that changed the inbound list ends with the congestion state that follows it. -/
theorem BayEnds.congestion (h : BayEnds w t) (hr : w.handed.restart = true)
    (he : w.eval = u.eval.following (Machine.gate u.conf.congestHigh u.conf.congestLow
      t.table.inbound.length u.eval.congested)) : CongestionFollowed u t := by
  have hk := h.eval
  rw [hr] at hk
  have ht := hk.restarted
  rw [he] at ht
  unfold Evaluator.following at ht
  unfold CongestionFollowed Restarted Evaluator.Empty
  rw [ht]
  dsimp only
  generalize Machine.gate _ _ _ _ = new
  refine ⟨rfl, ?_, rfl, rfl⟩
  cases new <;> cases u.eval.congested <;> simp

/-! ## AWARD that converts (R92) -/

/-- A reservation converted to an inbound entry, and what that hands on (R18, R49, R78, R92). -/
def State.converted (r : Reservation) (H : HandedOn) (u : State) : State :=
  { u with
    table := { u.table with
      reservations := u.table.reservations.erase r
      inbound := u.table.inbound ++ [r.entry (u.now + 1000 * u.conf.travelLimit)] }
    tally := { u.tally with
      ownT := u.tally.ownT + r.arrival.weight * u.table.armOf r.lane
      ownL := u.tally.ownL + r.arrival.weight * max (-1200) (min 1200 r.centre) }
    eval := u.eval.following (Machine.gate u.conf.congestHigh u.conf.congestLow
      (u.table.inbound ++ [r.entry (u.now + 1000 * u.conf.travelLimit)]).length u.eval.congested)
    handed := { H with restart := true, tally := true, inbound := true } }

theorem State.convert_ends (r : Reservation) (H : HandedOn) (u : State) :
    (u.setHanded H).convert r = u.converted r H := by
  rw [convert_eq, followCongestion_eq rfl]
  cases u
  rfl

/-- An AWARD naming this bay and the lane of its reservation, with room, converts it (R92). -/
theorem takeAward_converts {p : AwardPayload} {r : Reservation} {H : HandedOn}
    (hr : u.table.reservations.find? (fun x => decide (x.round = p.round)) = some r)
    (hbay : p.bay = BitVec.ofNat 8 u.conf.nodeNumber) (hlane : r.lane = p.lane.toNat)
    (hroom : u.table.inbound.length < 6) : (u.setHanded H).takeAward p = u.converted r H := by
  unfold State.takeAward State.takeOwnAward
  refine (if_pos hbay).trans ?_
  rw [show (u.setHanded H).table.reservations.find? (fun x => decide (x.round = p.round)) = some r from hr]
  exact (if_neg (not_not_intro hlane)).trans ((if_pos hroom).trans (u.convert_ends r H))

/-- Settles O40. -/
theorem awardConverts : Obligations.AwardConverts := by
  intro s h p hh hrole hra u r hr hbay hlane hroom
  have hact := (receive_heard hh).trans ((atBay_bay (caughtUp_role hrole)).trans
    (takeAward_converts hr hbay hlane hroom))
  obtain ⟨t, ht, he⟩ := event_bay hact
    ⟨caughtUp_configured hh.1, (congrArg Conf.role caughtUp_conf).trans hrole⟩ (.inl rfl)
  have hf := he.frame
  have htable := (congrArg State.table hf :)
  refine ⟨t, congrArg Host.Outcome.next ht, htable.trans ?_, he.sums rfl rfl rfl rfl,
    he.congestion rfl ?_, he.caused rfl rfl rfl rfl rfl, he.copied caughtUp_retained rfl rfl rfl, ?_⟩
  · unfold State.converted Reservation.entry
    rw [caughtUp_now]
  · rw [htable]
    rfl
  · exact (congrArg (fun v : State => { v with
      table := (s.caughtUp h).table, tally := (s.caughtUp h).tally, eval := (s.caughtUp h).eval
      dli := (s.caughtUp h).dli, retained := (s.caughtUp h).retained
      handed := (s.caughtUp h).handed }) hf :)

/-! ## The expiry of a travel timer (R118, R119) -/

/-- An entry that has not arrived in its time has left the inbound list, and what that hands on (R119). -/
def State.missed (e : Inbound) (due : Nat) (s : State) : State :=
  { s with
    now := max s.now due
    table := { s.table with inbound := s.table.inbound.erase e }
    tally := { s.tally with
      ownT := s.tally.ownT - e.arrival.weight * s.table.armOf e.lane
      ownL := s.tally.ownL - e.arrival.weight * max (-1200) (min 1200 e.centre) }
    dli := s.dli.taking s.tally.callNumber
      (.noticeMissing { round := e.round, booking := BitVec.ofNat 40 e.arrival.booking })
    conditions := raiseCondition (max s.now due) .inboundMissing (some e.lane) s.conditions
    eval := s.eval.following (Machine.gate s.conf.congestHigh s.conf.congestLow
      (s.table.inbound.erase e).length s.eval.congested)
    handed := { HandedOn.clear with
      restart := true, tally := true, inbound := true
      drops := s.dli.dropsOf s.tally.callNumber
        (.noticeMissing { round := e.round, booking := BitVec.ofNat 40 e.arrival.booking }) } }

theorem State.entryMissing_eq (e : Inbound) (due : Nat) (s : State) :
    (s.unmoved.reach due).entryMissing e = s.missed e due := by
  unfold State.entryMissing
  dsimp only
  rw [handIn_eq, followCongestion_eq rfl]
  cases s
  rfl

theorem takeTravelExpiry_some {b : Nat} {e : Inbound} {due : Nat}
    (he : s.table.inbound.find? (Inbound.travels b) = some e) (hd : e.travelDue = some due) :
    s.takeTravelExpiry b =
      if s.node = .withdrawn then
        (s.reach due).setTable { s.table with
          inbound := s.table.inbound.map fun x =>
            if x = e then { x with travelDue := none } else x }
      else (s.reach due).entryMissing e := by
  unfold State.takeTravelExpiry
  rw [he]
  dsimp only
  rw [hd]
  rfl

/-- Settles O60, by the entry whose timer runs. -/
theorem travelTimerExpires : Obligations.TravelTimerExpires := by
  intro s b hb hra
  have hguard {v : State} (h : s.unmoved.takeTravelExpiry b = v) :
      (if s.unmoved.IsBay then s.unmoved.takeTravelExpiry b else s.unmoved) = v :=
    (if_pos (show s.unmoved.IsBay from hb)).trans h
  refine ⟨fun e he due hd => ⟨fun hn => ?_, fun hn => ?_⟩, fun hnone => ?_⟩
  · have hact := hguard ((takeTravelExpiry_some (s := s.unmoved) he hd).trans
      ((if_neg hn).trans (s.entryMissing_eq e due)))
    obtain ⟨t, ht, hends⟩ := event_bay (f := fun s => if s.IsBay then s.takeTravelExpiry b else s)
      hact hb (.inr (hra.idle hb))
    have hf := hends.frame
    have htable := (congrArg State.table hf :)
    have hnow := (congrArg State.now hf :)
    refine ⟨t, congrArg Host.Outcome.next ht, hnow, htable,
      ⟨hends.sums Int.sub_eq_add_neg Int.sub_eq_add_neg rfl rfl, ?_, hends.congestion rfl ?_,
        hends.caused rfl rfl hnow.symm rfl rfl, hends.copied rfl rfl rfl ?_⟩, ?_⟩
    · rw [hnow]
      exact (congrArg State.conditions hf :)
    · rw [htable]
      rfl
    · rw [hnow]
      rfl
    · exact (congrArg (fun v : State => { v with
        now := s.now, table := s.table, tally := s.tally, conditions := s.conditions
        eval := s.eval, dli := s.dli, retained := s.retained, handed := s.handed }) hf :)
  · have hact := hguard ((takeTravelExpiry_some (s := s.unmoved) he hd).trans (if_pos hn))
    exact congrArg Host.Outcome.next ((State.event_of_clear
      (f := fun s => if s.IsBay then s.takeTravelExpiry b else s)
      (congrArg State.handed hact :)).trans hact)
  · refine congrArg Host.Outcome.next (event_unmoved
      (f := fun s => if s.IsBay then s.takeTravelExpiry b else s) (hguard ?_))
    unfold State.takeTravelExpiry
    rw [show s.unmoved.table.inbound.find? (Inbound.travels b) = none from
      List.find?_eq_none.2 fun e he ht => ?_]
    obtain ⟨hbk, hsome⟩ := Bool.and_eq_true_iff.1 ht
    rw [hnone e he (of_decide_eq_true hbk)] at hsome
    exact Bool.false_ne_true hsome

end Sys2Proof.Machine
end

section
/-! PROOFS. ENTER at a bay: a vehicle that no inbound entry expects, and one that an entry expects (O45, O46). -/

namespace Sys2Proof.Machine

open Sys2Proof

variable {s w t u : State}

/-! ## A consistent ENTER -/

/-- A consistent ENTER acts on the lane it names (R120, R121). -/
theorem exec_enter {lane : Byte} {m : Word16} {check : RxCheck} {l : Lane} (hb : s.IsBay)
    (hn : s.node ≠ .withdrawn) (hk : check = { word := checkWord ([1, lane] ++ bytes2 m) })
    (hl : s.table.lane? lane.toNat = some l) (h24 : l.placed.length < 24)
    (hlen : (m.toNat : Int) ≤ l.conf.length) (hmin : 10 ≤ (m.toNat : Int) - l.used) :
    ∃ f, exec (.enter lane m check) s = .next (s.event f) ∧
      f s.unmoved = s.unmoved.applyEnter l (m.toNat : Int) := by
  refine ⟨_, rfl, (sensorMessage_taken (s := s.unmoved) hb (messageAgrees_of hk)).trans
    ((if_neg hn).trans ?_)⟩
  unfold State.takeEnter
  rw [show s.unmoved.table.lane? lane.toNat = some l from hl]
  exact if_pos ((l.enterConsistent_iff _).2 ⟨h24, hlen, hmin⟩)

/-- The entry matched is the first of the lane, or else of another lane, within the tolerance (R122, R123). -/
theorem matchEntry_eq (tolerance inferred : Int) (n : Nat) (es : List Inbound) :
    matchEntry tolerance inferred n es =
      ((es.find? fun e => decide (e.lane = n) &&
          decide (((e.arrival.length - inferred).natAbs : Int) ≤ tolerance)).map fun e => (e, false)).or
        ((es.find? fun e => decide (e.lane ≠ n) &&
          decide (((e.arrival.length - inferred).natAbs : Int) ≤ tolerance)).map fun e => (e, true)) := by
  have hw (e : Inbound) : within tolerance e.arrival.length inferred =
      decide (((e.arrival.length - inferred).natAbs : Int) ≤ tolerance) := by
    rw [Bool.eq_iff_iff, within_iff, decide_eq_true_iff]
  unfold matchEntry
  simp only [hw]
  cases es.find? fun e => decide (e.lane = n) &&
      decide (((e.arrival.length - inferred).natAbs : Int) ≤ tolerance) <;> rfl

/-- Appending to the lane found is one update of it (R1, R5, R9, R10). -/
theorem appended_eq {n : Nat} {l : Lane} {r : Record} {used : Int} (hd : s.table.Distinct)
    (hl : s.table.lane? n = some l) (hu : l.used + r.extent s.conf.gap = used) :
    s.appended l r = { s.table with
      lanes := s.table.lanes.map fun k =>
        if k.number = n then
          { k with placed := k.placed ++ [r], used := used
                   sockets := if r.granted then k.sockets + 1 else k.sockets }
        else k } := by
  have hn := (LaneTable.lane?_some hl).2
  unfold State.appended
  rw [hn]
  refine updateLane_congr (g := fun k => { k with
    placed := k.placed ++ [r], used := used
    sockets := if r.granted then k.sockets + 1 else k.sockets }) hd hl ?_
  unfold Lane.append
  rw [hu]

/-! ## A vehicle that no entry expects (R124) -/

/-- An unexpected vehicle placed, and what that hands on (R18, R49, R124). -/
def State.unexpected (l : Lane) (length : Int) (s : State) : State :=
  { s with
    table := s.appended l (unidentified s.conf.unidentifiedWeight length l.used)
    tally := { s.tally with
      ownT := s.tally.ownT + s.conf.unidentifiedWeight * l.conf.y
      ownL := s.tally.ownL +
        s.conf.unidentifiedWeight * max (-1200) (min 1200 (l.conf.xf - l.used - length / 2)) }
    conditions := raiseCondition s.now .unidentifiedVehicle (some l.number) s.conditions }

theorem placeUnidentified_eq (l : Lane) (length : Int) (s : State) :
    s.placeUnidentified l length =
      (s.unexpected l length).setHanded (s.handed.vehicle l.number) := by
  unfold State.placeUnidentified
  rw [placeRecord_eq]
  cases s
  rfl

/-- Settles O46. -/
theorem enterUnexpected : Obligations.EnterUnexpected := by
  intro s lane m check hb hn hra hd hk l hl h24 hlen hmin hnone
  obtain ⟨f, hf, hact⟩ := exec_enter hb hn hk hl h24 hlen hmin
  have hmatch : matchEntry s.conf.tolerance ((m.toNat : Int) - l.used) l.number s.table.inbound = none := by
    have hout (e : Inbound) (he : e ∈ s.table.inbound) :
        ¬ ((e.arrival.length - ((m.toNat : Int) - l.used)).natAbs : Int) ≤ s.conf.tolerance :=
      not_le.2 (hnone e he)
    rw [matchEntry_eq, List.find?_eq_none.2 fun e he hs => hout e he
        (of_decide_eq_true (Bool.and_eq_true_iff.1 hs).2),
      List.find?_eq_none.2 fun e he hs => hout e he
        (of_decide_eq_true (Bool.and_eq_true_iff.1 hs).2)]
    rfl
  have hplace : s.unmoved.applyEnter l (m.toNat : Int) =
      (s.unexpected l ((m.toNat : Int) - l.used)).setHanded (HandedOn.clear.vehicle l.number) := by
    unfold State.applyEnter
    rw [show matchEntry s.unmoved.conf.tolerance _ _ s.unmoved.table.inbound = none from hmatch]
    exact (placeUnidentified_eq _ _ s.unmoved)
  obtain ⟨t, ht, he⟩ := event_bay (hact.trans hplace) hb (.inl rfl)
  have hnum := (LaneTable.lane?_some hl).2
  have hfr := he.frame
  refine ⟨t, hf.trans (congrArg Host.Outcome.next ht), (congrArg State.table hfr :).trans ?_,
    he.sums rfl rfl rfl rfl, (congrArg State.conditions hfr :), he.evaluator rfl rfl,
    he.caused rfl rfl rfl rfl rfl, he.copied rfl (congrArg (fun n => [n]) hnum :) rfl rfl,
    (congrArg (fun v : State => { v with
      table := s.table, tally := s.tally, conditions := s.conditions, eval := s.eval
      dli := s.dli, retained := s.retained, handed := s.handed }) hfr :)⟩
  exact appended_eq hd hl (by unfold Record.extent unidentified; simp only; omega)

/-! ## A vehicle that an entry expects (R122, R123, R125 to R130) -/

/-- The conditions of a matched ENTER (R123, R127). -/
def matchedConditions (now n : Nat) (misdirected : Bool) (breach : List Flag) (cs : List Condition) :
    List Condition :=
  ((if misdirected then [Code.misdirected] else []) ++
    (if breach = [] then [] else [Code.placementBreach])).foldl
    (fun cs k => raiseCondition now k (some n) cs) cs

/-- A matched vehicle placed, and what that hands on (R18, R49, R78, R125 to R130). -/
def State.matched (l : Lane) (e : Inbound) (misdirected : Bool) (s : State) : State :=
  let r := matchedRecord s.table l e misdirected (s.now + 1000 * lashLimit s.conf.lashClass)
  { s with
    table := { s.appended l r with inbound := s.table.inbound.erase e }
    tally := { s.tally with
      ownT := s.tally.ownT + (e.arrival.weight * l.conf.y - e.arrival.weight * s.table.armOf e.lane)
      ownL := s.tally.ownL +
        (e.arrival.weight * max (-1200) (min 1200 (l.conf.xf - l.used - e.arrival.length / 2)) -
          e.arrival.weight * max (-1200) (min 1200 e.centre)) }
    eval := s.eval.following (Machine.gate s.conf.congestHigh s.conf.congestLow
      (s.table.inbound.erase e).length s.eval.congested)
    conditions := matchedConditions s.now l.number misdirected (breachFlags s.table l e.arrival) s.conditions
    dli := s.dli.taking s.tally.callNumber (.placed (s.placedPayload l e)) }

/-- What a matched ENTER hands on (R18, R126). -/
def State.matchedHanded (l : Lane) (e : Inbound) (s : State) : HandedOn :=
  { HandedOn.clear.vehicle l.number with
    inbound := true, drops := s.dli.dropsOf s.tally.callNumber (.placed (s.placedPayload l e)) }

/-- The arms of the lanes stand as a record is appended (R49). -/
theorem State.armOf_appended (l : Lane) (r : Record) (s : State) (n : Nat) :
    (s.appended l r).armOf n = s.table.armOf n := by
  refine armOf_congr ?_ n
  unfold State.appended LaneTable.updateLane
  rw [List.map_map]
  refine List.map_congr_left fun k _ => ?_
  dsimp only [Function.comp]
  split <;> rfl

/-- The vehicle placed and its entry removed, before the congestion state follows (R125, R126). -/
theorem placeRecord_removeInbound (l : Lane) (e : Inbound) (r : Record) (s : State) :
    ((s.placeRecord l r).removeInbound e).handInbound =
      { s with
        table := { s.appended l r with inbound := s.table.inbound.erase e }
        tally := { s.tally with
          ownT := s.tally.ownT + (r.mT l.conf - e.arrival.weight * s.table.armOf e.lane)
          ownL := s.tally.ownL + (r.mL l.conf - e.arrival.weight * max (-1200) (min 1200 e.centre)) }
        handed := { s.handed.vehicle l.number with inbound := true } } := by
  rw [← add_sub_assoc, sub_eq_add_neg, ← add_sub_assoc, sub_eq_add_neg]
  rw [placeRecord_eq, removeInbound_eq, ← s.armOf_appended l r e.lane]
  cases s
  rfl

/-- The conditions of a matched ENTER raised one after the other. -/
theorem raise_matched (n : Nat) (misdirected : Bool) (breach : List Flag) (u : State) :
    (let v := if misdirected = true then u.raise .misdirected (some n) else u
     if breach.isEmpty = true then v else v.raise .placementBreach (some n)) =
      u.setConditions (matchedConditions u.now n misdirected breach u.conditions) := by
  unfold matchedConditions
  cases misdirected <;> cases breach <;> rfl

theorem placeMatched_eq (l : Lane) (e : Inbound) (misdirected : Bool) (s : State) :
    s.unmoved.placeMatched l e misdirected =
      (s.matched l e misdirected).setHanded (s.matchedHanded l e) := by
  unfold State.placeMatched
  dsimp only
  rw [placeRecord_removeInbound, followCongestion_eq rfl]
  refine (congrArg (fun v : State => v.handIn (.placed (s.unmoved.placedPayload l e)))
    (raise_matched l.number misdirected _ _)).trans ?_
  rw [handIn_eq]
  cases s
  rfl

/-! ### The checks (R127, R128), as the statement writes them -/

theorem overstowFails_iff (a : Arrival) (tail : Option Record) : overstowFails a tail = true ↔
    (∃ r ∈ tail, ∃ k ∈ r.rank, k < a.rank) ∧ a.overstow = false := by
  unfold overstowFails
  cases tail with
  | none => simp
  | some r => cases hr : r.rank <;> simp [hr]

theorem segregationFails_iff (t : LaneTable) (l : Lane) (a : Arrival) :
    (tailSegregationFails a l.tail? || adjacentSegregationFails t l.number l.used a) = true ↔
      (∃ r ∈ l.placed.getLast?, separatedGroups r.hazard a.hazard.group? = true) ∨
        (∃ k ∈ t.lanes, (k.number = l.number + 1 ∨ l.number = k.number + 1) ∧
          ∃ r ∈ k.placed, separatedGroups r.hazard a.hazard.group? = true ∧
            r.front - 30 < l.used + a.length ∧ l.used < r.front + r.length + 30) := by
  have htail : tailSegregationFails a l.tail? = true ↔
      ∃ r ∈ l.placed.getLast?, separatedGroups r.hazard a.hazard.group? = true := by
    unfold tailSegregationFails Lane.tail?
    cases l.placed.getLast? <;> simp
  rw [Bool.or_eq_true, htail]
  simp [adjacentSegregationFails, adjacent, spansOverlap, Config.segregationDistance]

theorem breachFlags_eq (t : LaneTable) (l : Lane) (a : Arrival) :
    breachFlags t l a =
      (if (∃ r ∈ l.placed.getLast?, ∃ k ∈ r.rank, k < a.rank) ∧ a.overstow = false
        then [.overstow] else []) ++
      (if (∃ r ∈ l.placed.getLast?, separatedGroups r.hazard a.hazard.group? = true) ∨
          (∃ k ∈ t.lanes, (k.number = l.number + 1 ∨ l.number = k.number + 1) ∧
            ∃ r ∈ k.placed, separatedGroups r.hazard a.hazard.group? = true ∧
              r.front - 30 < l.used + a.length ∧ l.used < r.front + r.length + 30)
        then [.segregation] else []) ++
      (if l.conf.axle < a.axle then [.axle] else []) ++
      (if l.conf.accepts a = true then [] else [.filter]) ++
      (if a.reefer = true ∧ decide (l.sockets < l.conf.sockets) = false then [.noSocket] else []) := by
  unfold breachFlags checkFlags Lane.socketFree
  have hsocket : (a.reefer && !decide (l.sockets < l.conf.sockets)) = true ↔
      a.reefer = true ∧ decide (l.sockets < l.conf.sockets) = false := by
    rw [Bool.and_eq_true, Bool.not_eq_true']
  simp only [overstowFails_iff, segregationFails_iff, hsocket]
  rfl

theorem lashLimit_eq (c : Nat) : lashLimit c = match c with
    | 0 => 120
    | 1 => 300
    | 2 => 600
    | _ => 1200 := by
  rcases c with _ | _ | _ | _ <;> rfl

/-- The table with a matched record appended, its entry gone (R5, R125). -/
theorem matched_table {n : Nat} {l : Lane} {e : Inbound} {r : Record}
    (hl : s.table.lane? n = some l) (hr : r.length = e.arrival.length) :
    { s.appended l r with inbound := s.table.inbound.erase e } =
      { s.table with
        lanes := s.table.lanes.map fun k =>
          if k.number = n then
            { k with
              placed := k.placed ++ [r], used := k.used + (e.arrival.length + s.conf.gap)
              sockets := if r.granted then k.sockets + 1 else k.sockets }
          else k
        inbound := s.table.inbound.erase e } := by
  have hn := (LaneTable.lane?_some hl).2
  unfold State.appended Lane.append Record.extent
  rw [hn, hr]
  rfl

/-- A matched ENTER as an event of the bay (R126). -/
theorem exec_enter_matched {lane : Byte} {m : Word16} {check : RxCheck} {l : Lane} {x : Inbound × Bool}
    (hb : s.IsBay) (hn : s.node ≠ .withdrawn) (hra : s.RoleApart)
    (hk : check = { word := checkWord ([1, lane] ++ bytes2 m) })
    (hl : s.table.lane? lane.toNat = some l) (h24 : l.placed.length < 24)
    (hlen : (m.toNat : Int) ≤ l.conf.length) (hmin : 10 ≤ (m.toNat : Int) - l.used)
    (hx : matchEntry s.conf.tolerance ((m.toNat : Int) - l.used) l.number s.table.inbound = some x) :
    ∃ t, exec (.enter lane m check) s = .next t ∧
      BayEnds ((s.matched l x.1 x.2).setHanded (s.matchedHanded l x.1)) t := by
  obtain ⟨f, hf, hact⟩ := exec_enter hb hn hk hl h24 hlen hmin
  have hplace : s.unmoved.applyEnter l (m.toNat : Int) =
      (s.matched l x.1 x.2).setHanded (s.matchedHanded l x.1) := by
    unfold State.applyEnter
    rw [show matchEntry s.unmoved.conf.tolerance _ _ s.unmoved.table.inbound = some x from hx]
    exact placeMatched_eq _ _ _ s
  obtain ⟨t, ht, he⟩ := event_bay (hact.trans hplace) hb (.inr (hra.idle hb))
  exact ⟨t, hf.trans (congrArg Host.Outcome.next ht), he⟩

/-- Settles O45. -/
theorem enterMatched : Obligations.EnterMatched := by
  intro s lane m check hb hn hra _ hk l hl h24 hlen hmin x hx
  rw [← matchEntry_eq] at hx
  obtain ⟨t, ht, he⟩ := exec_enter_matched hb hn hra hk hl h24 hlen hmin hx
  have hnum := (LaneTable.lane?_some hl).2
  have hfr := he.frame
  have htable := (congrArg State.table hfr :)
  refine ⟨t, ht, htable.trans ?_, he.sums rfl rfl rfl rfl, (congrArg State.conditions hfr :).trans ?_,
    he.congestion rfl ?_, he.caused rfl rfl rfl rfl rfl,
    he.copied rfl (congrArg (fun n => [n]) hnum :) rfl rfl,
    (congrArg (fun v : State => { v with
      table := s.table, tally := s.tally, conditions := s.conditions, eval := s.eval
      dli := s.dli, retained := s.retained, handed := s.handed }) hfr :)⟩
  · refine (matched_table hl rfl).trans ?_
    unfold matchedRecord
    rw [breachFlags_eq, lashLimit_eq]
    rfl
  · show matchedConditions _ _ _ _ _ = _
    rw [breachFlags_eq]
    rfl
  · rw [htable]
    rfl

end Sys2Proof.Machine
end

section
/-! PROOFS. AWARDs that convert nothing, and the stop line at a bay (O33, O41). -/

namespace Sys2Proof.Machine

open Sys2Proof

variable {s w t u : State} {h : RxHeader}

/-! ## AWARDs that convert nothing (R91, R93 to R96) -/

/-- The release of the reservation of a round, if one is held (R89, R90). -/
theorem releaseRound_held (r : RoundId) (s : State) :
    s.releaseRound r =
      { s with
        table := { s.table with reservations := s.table.reservations.filter fun x => decide (x.round ≠ r) }
        dli := if (s.table.reservations.any fun x => decide (x.round = r)) = true then s.dli.offersOut [r]
          else s.dli
        handed := { s.handed with
          restart := s.handed.restart || s.table.reservations.any fun x => decide (x.round = r) } } := by
  unfold State.releaseRound
  cases hany : s.table.reservations.any fun x => decide (x.round = r) with
  | true =>
    have hsel : Payload.isOfferFor r = fun p => [r].any fun r => p.isOfferFor r := by
      funext p
      rw [List.any_cons, List.any_nil, Bool.or_false]
    unfold State.removeOffer
    rw [hsel, Bool.or_true]
    rfl
  | false =>
    have hall : (s.table.reservations.filter fun x => decide (x.round ≠ r)) = s.table.reservations :=
      List.filter_eq_self.2 fun x hx => decide_eq_true fun hr =>
        List.any_eq_false.1 hany x hx (decide_eq_true hr)
    rw [hall, Bool.or_false]
    rfl

/-- The reason with which an AWARD that converts nothing is answered, if it is answered (R91, R93 to R96). -/
def State.declineReason (p : AwardPayload) (u : State) : Option Byte :=
  if decide (p.bay = BitVec.ofNat 8 u.conf.nodeNumber) = false then none
  else if (u.table.reservations.any fun x => decide (x.round = p.round)) = false then
    (if (u.table.inbound.any fun e => decide (e.round = p.round)) ||
        (u.table.lanes.any fun l => l.placed.any fun x => decide (x.round = some p.round))
      then none else some 1)
  else if ((u.table.reservations.find? fun x => decide (x.round = p.round)).any
      fun r => decide (r.lane ≠ p.lane.toNat)) = true then some 2
  else some 3

/-- The line of a bay that releases a round's reservation, where it holds one. -/
def State.releasedLine (r : RoundId) (u : State) : Dli :=
  if (u.table.reservations.any fun x => decide (x.round = r)) = true then u.dli.offersOut [r] else u.dli

/-- A bay that has released the reservation of an AWARD and answered it. -/
def State.answering (p : AwardPayload) (reason : Option Byte) (H : HandedOn) (u : State) : State :=
  { u with
    table := { u.table with
      reservations := u.table.reservations.filter fun x => decide (x.round ≠ p.round) }
    dli := match reason with
      | none => u.releasedLine p.round
      | some k => (u.releasedLine p.round).taking u.tally.callNumber (.decline { round := p.round, reason := k })
    handed := { H with
      restart := H.restart || u.table.reservations.any fun x => decide (x.round = p.round)
      drops := H.drops ++ match reason with
        | none => []
        | some k => (u.releasedLine p.round).dropsOf u.tally.callNumber
          (.decline { round := p.round, reason := k }) } }

theorem releaseRound_answering (p : AwardPayload) (H : HandedOn) (u : State) :
    (u.setHanded H).releaseRound p.round = u.answering p none H := by
  rw [releaseRound_held]
  unfold State.answering
  rw [List.append_nil]
  cases u
  rfl

theorem answerDecline_answering (p : AwardPayload) (k : Byte) (H : HandedOn) (u : State) :
    (u.answering p none H).answerDecline p.round k = u.answering p (some k) H := by
  unfold State.answerDecline
  rw [handIn_eq]
  unfold State.answering
  dsimp only
  rw [List.append_nil]
  cases u
  rfl

/-- Without a reservation of the round there is nothing to release. -/
theorem answering_unheld {p : AwardPayload} {H : HandedOn}
    (hn : (u.table.reservations.any fun x => decide (x.round = p.round)) = false) :
    u.answering p none H = u.setHanded H := by
  rw [← releaseRound_answering]
  unfold State.releaseRound
  exact if_neg (Bool.eq_false_iff.1 hn)

/-- An AWARD that converts nothing releases the reservation of its round and is answered as R91 to R96 say. -/
theorem takeAward_answers {p : AwardPayload} {H : HandedOn}
    (hnot : p.bay = BitVec.ofNat 8 u.conf.nodeNumber →
      ∀ r, u.table.reservations.find? (fun x => decide (x.round = p.round)) = some r →
        r.lane = p.lane.toNat → 6 ≤ u.table.inbound.length) :
    (u.setHanded H).takeAward p = u.answering p (u.declineReason p) H := by
  unfold State.takeAward State.declineReason
  by_cases hbay : p.bay = BitVec.ofNat 8 u.conf.nodeNumber
  · refine (if_pos hbay).trans ?_
    rw [decide_eq_true hbay, if_neg (fun k : true = false => Bool.false_ne_true k.symm)]
    unfold State.takeOwnAward
    rw [show (u.setHanded H).table = u.table from rfl]
    cases hf : u.table.reservations.find? fun x => decide (x.round = p.round) with
    | none =>
      have hn : (u.table.reservations.any fun x => decide (x.round = p.round)) = false :=
        List.any_eq_false.2 fun x hx => List.find?_eq_none.1 hf x hx
      rw [if_pos hn]
      show (if u.table.holdsRound p.round = true then _ else _) = _
      unfold LaneTable.holdsRound
      split
      · exact (answering_unheld hn).symm
      · rw [← answering_unheld (H := H) hn]
        exact answerDecline_answering p 1 H u
    | some r =>
      have hround : decide (r.round = p.round) = true := by simpa using List.find?_some hf
      have hany : ¬ (u.table.reservations.any fun x => decide (x.round = p.round)) = false :=
        Bool.eq_false_iff.not.2 (not_not_intro (List.any_eq_true.2
          ⟨r, List.mem_of_find?_eq_some hf, hround⟩))
      rw [if_neg hany, Option.any_some]
      dsimp only
      rw [releaseRound_answering]
      by_cases hlane : r.lane = p.lane.toNat
      · rw [if_neg (not_not_intro hlane), if_neg (not_lt.2 (hnot hbay r hf hlane)),
          if_neg (by simpa using hlane)]
        exact answerDecline_answering p 3 H u
      · rw [if_pos hlane, if_pos (decide_eq_true hlane)]
        exact answerDecline_answering p 2 H u
  · refine (if_neg hbay).trans ?_
    rw [decide_eq_false hbay, if_pos rfl]
    exact (releaseRound_answering p H u)

/-- Settles O41. -/
theorem awardNotConverted : Obligations.AwardNotConverted := by
  intro s h p hh hra u own held mismatch reason
  refine ⟨fun hr hnot => ?_, fun hr => ?_⟩
  · have hact := (receive_heard hh).trans ((atBay_bay (caughtUp_role hr)).trans
      (takeAward_answers (p := p) (H := s.caughtHanded h) (u := u) ?_))
    · have hidle : u.rounds.openRound = none ∧ u.rounds.dispatched = [] := by
        rw [show u.rounds = s.rounds from caughtUp_rounds]
        exact hra.idle ⟨hh.1, hr⟩
      obtain ⟨t, ht, he⟩ := event_bay hact
        ⟨caughtUp_configured hh.1, (congrArg Conf.role caughtUp_conf).trans hr⟩ (.inr hidle)
      obtain ⟨hT, hD⟩ := he.uncaused rfl
      have hf := he.frame
      rw [← hT] at hf
      refine ⟨t, congrArg Host.Outcome.next ht, (congrArg State.table hf :), hD,
        he.evaluator (Bool.or_comm _ _) rfl, he.copied caughtUp_retained rfl rfl (Bool.or_false _),
        (congrArg (fun v : State => { v with
          table := u.table, dli := u.dli, eval := u.eval, retained := u.retained
          handed := u.handed }) hf :)⟩
    · intro hbay r hfind hlane
      rcases hnot with ho | hn | hm | hfull
      · exact absurd (decide_eq_true hbay) (Bool.eq_false_iff.1 ho)
      · exact absurd (List.find?_some hfind) (List.any_eq_false.1 hn r (List.mem_of_find?_eq_some hfind))
      · unfold mismatch at hm
        rw [hfind] at hm
        exact absurd hlane (of_decide_eq_true hm)
      · exact hfull
  · obtain ⟨t, ht, hheard⟩ := event_atBay_ramp (take := State.takeAward p) hh hr
    exact ⟨t, congrArg Host.Outcome.next ht, hheard⟩

/-! ## The stop line at a bay (R23, R170) -/

/-- With no evaluation in flight there is nothing to restart (R72). -/
theorem BayEnds.eval_idle (he : BayEnds w t) (hf : w.eval.inFlight = none) : t.eval = w.eval := by
  obtain ⟨hk, hr⟩ := he.eval
  have hnone : t.eval.inFlight = w.eval.inFlight := by
    by_cases ha : w.handed.restart = true
    · rw [(if_pos ha).mp hk, hf]
      rfl
    · exact (if_neg ha).mp hk
  rw [← hr, ← hnone]

/-- The bay after a rising edge of its stop line, and what that hands on (R18, R23, R77, R170). -/
def State.stoppedBay (s : State) : State :=
  { s with
    stopLine := true
    conditions := raiseCondition s.now .stop none s.conditions
    table := { s.table with reservations := [], lanes := s.table.lanes.map Lane.stopped }
    eval := { s.eval with inFlight := none, callQueue := [] }
    dli := s.dli.offersOut (s.table.reservations.map (·.round))
    handed := { HandedOn.clear with
      restart := !s.table.reservations.isEmpty
      tally := !s.table.stopChanges.isEmpty, lanes := s.table.stopChanges } }

theorem stopEdge_bay (hr : s.conf.role = .bay) :
    (s.unmoved.setStopLine true).stopEdge = s.stoppedBay := by
  unfold State.stopEdge
  dsimp only
  rw [show ((s.unmoved.setStopLine true).raise .stop none).conf.role = .bay from hr]
  dsimp only
  rw [stopBay_eq, handStates_eq, releaseAll_eq]
  cases s
  rfl

/-- The lanes that a rising edge changes (R23). -/
theorem stopChanges_eq (t : LaneTable) :
    t.stopChanges =
      (t.lanes.filter fun k => decide (k.stored = .opened ∨ k.stored = .fault .opened)).map (·.number) := by
  have hch (k : Lane) : decide (k.stopped.stored ≠ k.stored) =
      decide (k.stored = .opened ∨ k.stored = .fault .opened) := by
    unfold Lane.stopped
    rcases hk : k.stored with _ | _ | r
    · rfl
    · rfl
    · cases r <;> rfl
  unfold LaneTable.stopChanges
  simp only [hch]

/-- Settles O33. -/
theorem stopLineAtABay : Obligations.StopLineAtABay := by
  intro s hb hra
  have hact := (stopEdge_taken hb.1).trans (stopEdge_bay hb.2)
  obtain ⟨t, ht, he⟩ := event_bay (f := fun s => if (s.setStopLine true).Configured then
    (s.setStopLine true).stopEdge else s.setStopLine true) hact hb (.inl rfl)
  have heval := he.eval_idle rfl
  have hf := he.frame
  refine ⟨t, congrArg Host.Outcome.next ht, (congrArg State.stopLine hf :), (congrArg State.conditions hf :),
    (congrArg State.table hf :), heval, ?_,
    (congrArg (fun v : State => { v with
      stopLine := s.stopLine, conditions := s.conditions, table := s.table, eval := s.eval
      tally := s.tally, dli := s.dli, retained := s.retained, handed := s.handed }) hf :)⟩
  dsimp only
  rw [← stopChanges_eq]
  split
  · rename_i hnil
    have htally : s.stoppedBay.handed.tally = false := by
      show (!s.table.stopChanges.isEmpty) = false
      rw [hnil]
      rfl
    obtain ⟨hT, hD⟩ := he.uncaused htally
    refine ⟨hT, hD, (he.copied rfl hnil rfl ?_).nothing⟩
    rw [htally]
    rfl
  · rename_i hne
    have htally : s.stoppedBay.handed.tally = true := by
      show (!s.table.stopChanges.isEmpty) = true
      rw [Bool.not_eq_true', ← Bool.not_eq_true, List.isEmpty_iff]
      exact hne
    refine ⟨he.caused htally rfl rfl rfl rfl, he.sums (Int.add_zero _).symm (Int.add_zero _).symm rfl rfl,
      he.copied rfl rfl rfl ?_⟩
    rw [htally]
    rfl

end Sys2Proof.Machine
end

section
/-! PROOFS. The admission of a CALL at a bay (R64 to R70; O38). -/

namespace Sys2Proof.Machine

open Sys2Proof

variable {s w t u : State} {h : RxHeader}

/-- The end of an event leaves what a snapshot is made of (R70). -/
theorem BayEnds.snapshot (he : BayEnds w t) : t.snapshot = w.snapshot :=
  snapshot_kept (congrArg State.table he.frame :) (congrArg State.conf he.frame :)
    (he.sums (Int.add_zero _).symm (Int.add_zero _).symm rfl rfl)

/-! ## The older rounds of the CALL's ramp (R67) -/

/-- The rounds of the reservations that an admitted CALL closes (R67). -/
def LaneTable.olderRounds (r : RoundId) (k : LaneTable) : List RoundId :=
  (k.reservations.filter fun x => olderRound r x.round).map (·.round)

/-- The bay after the reservations and queued CALLs of older rounds are closed, the evaluation in flight as it
was (R67). -/
def State.olderClosed (r : RoundId) (s : State) : State :=
  { s with
    table := { s.table with
      reservations := s.table.reservations.filter fun x => !(olderRound r x.round) }
    dli := s.dli.offersOut (s.table.olderRounds r)
    eval := { s.eval with callQueue := s.eval.callQueue.filter fun c => !(olderRound r c.round) }
    handed := { s.handed with restart := s.handed.restart || !(s.table.olderRounds r).isEmpty } }

theorem released_older (r : RoundId) (s : State) :
    s.released ((s.table.reservations.map (·.round)).filter (olderRound r)) =
      { s with
        table := { s.table with
          reservations := s.table.reservations.filter fun x => !(olderRound r x.round) }
        dli := s.dli.offersOut (s.table.olderRounds r)
        handed := { s.handed with restart := s.handed.restart || !(s.table.olderRounds r).isEmpty } } := by
  have hc : ∀ x ∈ s.table.reservations,
      ((s.table.reservations.map (·.round)).filter (olderRound r)).contains x.round =
        olderRound r x.round := by
    intro x hx
    rw [Bool.eq_iff_iff, List.contains_iff_mem, List.mem_filter]
    exact ⟨fun hm => hm.2, fun ho => ⟨List.mem_map_of_mem hx, ho⟩⟩
  have hkept : (s.table.reservations.filter fun x =>
      !(((s.table.reservations.map (·.round)).filter (olderRound r)).contains x.round)) =
        s.table.reservations.filter fun x => !(olderRound r x.round) :=
    List.filter_congr fun x hx => congrArg Bool.not (hc x hx)
  have hgone : (s.table.reservations.filter fun x =>
      ((s.table.reservations.map (·.round)).filter (olderRound r)).contains x.round) =
        s.table.reservations.filter fun x => olderRound r x.round := List.filter_congr hc
  have hany : (s.table.reservations.any fun x =>
      ((s.table.reservations.map (·.round)).filter (olderRound r)).contains x.round) =
        !(s.table.olderRounds r).isEmpty := by
    unfold LaneTable.olderRounds
    rw [List.isEmpty_map, ← hgone]
    generalize (fun x : Reservation =>
      ((s.table.reservations.map (·.round)).filter (olderRound r)).contains x.round) = f
    rw [Bool.eq_iff_iff, List.any_eq_true, Bool.not_eq_true', ← Bool.not_eq_true, List.isEmpty_iff,
      List.filter_eq_nil_iff]
    simp
  unfold State.released
  rw [hkept, hgone, hany]
  rfl

/-- What admitting a CALL does to the older rounds of its ramp, by the round in evaluation (R67). -/
theorem closeOlderRounds_eq (r : RoundId) (s : State) :
    s.closeOlderRounds r =
      match s.eval.inFlight with
      | none => s.olderClosed r
      | some v =>
        if olderRound r v.call.round then (s.olderClosed r).endEvaluation.takeNextCall
        else s.olderClosed r := by
  unfold State.closeOlderRounds
  dsimp only
  rw [foldl_release_eq, released_older]
  rfl

/-- With no other evaluation in flight than one of an older round, the evaluator is free for the next CALL
(R64, R67). -/
theorem closeOlderRounds_free {r : RoundId}
    (hf : (s.eval.inFlight.filter fun v => !(olderRound r v.call.round)) = none)
    (hidle : s.eval.inFlight = none → s.eval.callQueue = []) :
    s.closeOlderRounds r = (s.olderClosed r).endEvaluation.takeNextCall := by
  rw [closeOlderRounds_eq]
  cases hv : s.eval.inFlight with
  | none =>
    have hq : (s.olderClosed r).eval = { s.eval with inFlight := none, callQueue := [] } := by
      unfold State.olderClosed
      dsimp only
      rw [hidle hv, ← hv]
      rfl
    have hend : (s.olderClosed r).endEvaluation = s.olderClosed r := by
      unfold State.endEvaluation
      rw [hq]
      exact congrArg (fun e => (s.olderClosed r).setEval e) hq.symm
    dsimp only
    rw [hend]
    unfold State.takeNextCall
    rw [hq]
    exact congrArg (fun e => (s.olderClosed r).setEval e) hq
  | some v =>
    rw [hv, Option.filter_some] at hf
    dsimp only
    split
    · rfl
    · rename_i ho
      rw [Bool.not_eq_true] at ho
      rw [ho] at hf
      exact nomatch hf

/-- An evaluation in flight of another round goes on (R67). -/
theorem closeOlderRounds_busy {r : RoundId} {v : Evaluation}
    (hf : (s.eval.inFlight.filter fun v => !(olderRound r v.call.round)) = some v) :
    s.closeOlderRounds r = s.olderClosed r ∧ s.eval.inFlight = some v := by
  obtain ⟨hv, ho⟩ := Option.filter_eq_some_iff.1 hf
  rw [closeOlderRounds_eq, hv]
  exact ⟨if_neg (by simpa using ho), rfl⟩

/-! ## The CALL queued (R68, R69) -/

/-- An idle evaluator with no live CALL rests with an empty queue (R64, R69). -/
theorem takeNextCall_nil (hf : s.eval.inFlight = none)
    (hl : liveCalls s.now s.eval.callQueue = []) :
    s.takeNextCall = s.setEval { s.eval with callQueue := [] } := by
  unfold State.takeNextCall
  rw [hf, hl]

/-- An idle evaluator takes its first live CALL (R69, R70). -/
theorem takeNextCall_cons {x : QueuedCall} {rest : List QueuedCall} (hf : s.eval.inFlight = none)
    (hl : liveCalls s.now s.eval.callQueue = x :: rest) :
    s.takeNextCall = (s.setEval { s.eval with
      callQueue := rest
      inFlight := some { call := x, snapshot := s.snapshot, restarts := 0 } }).setHanded
        { s.handed with restart := false } := by
  unfold State.takeNextCall
  rw [hf, hl]

/-- The evaluator with a CALL queued, or dropped and counted when 4 wait (R68). -/
def Evaluator.queued (c : QueuedCall) (e : Evaluator) : Evaluator :=
  { e with
    callQueue := if e.callQueue.length < 4 then e.callQueue ++ [c] else e.callQueue
    dropped := if e.callQueue.length < 4 then e.dropped
      else if e.dropped < Config.maxCount then e.dropped + 1 else e.dropped }

/-- A CALL queued behind an evaluation in flight (R68). -/
theorem queueCall_busy {c : QueuedCall} {v : Evaluation} (hv : s.eval.inFlight = some v) :
    s.queueCall c = s.setEval (s.eval.queued c) := by
  unfold State.queueCall Evaluator.queued
  by_cases hlen : s.eval.callQueue.length < 4
  · refine (if_pos hlen).trans ?_
    unfold State.takeNextCall
    rw [show (s.setEval { s.eval with callQueue := s.eval.callQueue ++ [c] }).eval.inFlight = some v from hv,
      if_pos hlen, if_pos hlen]
  · refine (if_neg hlen).trans ?_
    rw [if_neg hlen, if_neg hlen]

/-- The bay that has admitted a CALL of round `r`, its evaluator then `E` and its restart asked for by `R`. -/
def State.admitted (r : RoundId) (E : Evaluator) (R : Bool) (H : HandedOn) (u : State) : State :=
  { u with
    table := { u.table with
      reservations := u.table.reservations.filter fun x => !(olderRound r x.round) }
    dli := u.dli.offersOut (u.table.olderRounds r)
    eval := E
    handed := { H with restart := R } }

/-- The evaluator of a bay that has noted a CALL, with the queued CALLs of older rounds gone (R66, R67). -/
def State.notedEval (r : RoundId) (u : State) : Evaluator :=
  { u.eval with
    roundRecord := u.eval.roundRecord.set r.ramp r.seq
    callQueue := u.eval.callQueue.filter fun c => !(olderRound r c.round) }

/-- A bay that has noted a CALL in its round record (R66). -/
def State.noted (r : RoundId) (H : HandedOn) (u : State) : State :=
  { u with eval := { u.eval with roundRecord := u.eval.roundRecord.set r.ramp r.seq }, handed := H }

theorem noted_olderClosed (r : RoundId) (H : HandedOn) (u : State) :
    (u.noted r H).olderClosed r =
      u.admitted r (u.notedEval r) (H.restart || !(u.table.olderRounds r).isEmpty) H := rfl

/-- An admitted CALL waits behind the evaluation in flight of another round (R68). -/
theorem admit_busy {r : RoundId} {H : HandedOn} {c : QueuedCall} {v : Evaluation}
    (hf : (u.eval.inFlight.filter fun v => !(olderRound r v.call.round)) = some v) :
    ((u.noted r H).closeOlderRounds r).queueCall c =
      u.admitted r ((u.notedEval r).queued c) (H.restart || !(u.table.olderRounds r).isEmpty) H := by
  obtain ⟨hclosed, hv⟩ := closeOlderRounds_busy (s := u.noted r H) hf
  rw [hclosed, noted_olderClosed]
  exact queueCall_busy (v := v) hv

/-- A free evaluator with no live CALL takes the admitted CALL at once (R69, R70). -/
theorem admit_taken {r : RoundId} {H : HandedOn} {c : QueuedCall}
    (hf : (u.eval.inFlight.filter fun v => !(olderRound r v.call.round)) = none)
    (hidle : u.eval.inFlight = none → u.eval.callQueue = [])
    (hlive : liveCalls u.now (u.notedEval r).callQueue = []) (hc : u.now < c.deadline) :
    ((u.noted r H).closeOlderRounds r).queueCall c =
      u.admitted r { u.notedEval r with
        inFlight := some { call := c, snapshot := (u.admitted r u.eval false H).snapshot, restarts := 0 }
        callQueue := [] } false H := by
  have hone : liveCalls u.now [c] = [c] := by
    unfold liveCalls
    rw [List.dropWhile_cons, decide_eq_false (not_le.2 hc)]
    rfl
  rw [closeOlderRounds_free (s := u.noted r H) hf hidle, noted_olderClosed]
  have hnext : (u.admitted r (u.notedEval r) (H.restart || !(u.table.olderRounds r).isEmpty)
      H).endEvaluation.takeNextCall =
        u.admitted r { u.notedEval r with inFlight := none, callQueue := [] }
          (H.restart || !(u.table.olderRounds r).isEmpty) H :=
    takeNextCall_nil rfl hlive
  rw [hnext]
  unfold State.queueCall
  exact (if_pos (show 0 < Config.maxCalls by decide)).trans (takeNextCall_cons rfl hone)

/-- A free evaluator takes the first live CALL, and the admitted one waits behind it (R68, R69, R70). -/
theorem admit_behind {r : RoundId} {H : HandedOn} {c x : QueuedCall} {rest : List QueuedCall}
    (hf : (u.eval.inFlight.filter fun v => !(olderRound r v.call.round)) = none)
    (hidle : u.eval.inFlight = none → u.eval.callQueue = [])
    (hlive : liveCalls u.now (u.notedEval r).callQueue = x :: rest) :
    ((u.noted r H).closeOlderRounds r).queueCall c =
      u.admitted r (Evaluator.queued c { u.notedEval r with
        inFlight := some { call := x, snapshot := (u.admitted r u.eval false H).snapshot, restarts := 0 }
        callQueue := rest }) false H := by
  rw [closeOlderRounds_free (s := u.noted r H) hf hidle, noted_olderClosed]
  have hnext : (u.admitted r (u.notedEval r) (H.restart || !(u.table.olderRounds r).isEmpty)
      H).endEvaluation.takeNextCall =
        u.admitted r { u.notedEval r with
          inFlight := some { call := x, snapshot := (u.admitted r u.eval false H).snapshot, restarts := 0 }
          callQueue := rest } false H :=
    takeNextCall_cons rfl hlive
  rw [hnext]
  exact queueCall_busy rfl

/-! ## The event of an admitted CALL -/

/-- A CALL that a bay admits (R65). -/
theorem receive_call_admitted {p : CallPayload} (hh : s.Hears h (.call p))
    (hr : s.conf.role = .bay) (hnew : (s.caughtUp h).eval.roundRecord.isNew p.round = true)
    (hturn : (s.caughtUp h).turnsAway h.callNumber p.deckMask = false) :
    State.receive h (.call p) (State.atBay (State.takeCall h.callNumber p)) s.unmoved =
      (((s.caughtUp h).noted p.round (s.caughtHanded h)).closeOlderRounds p.round).queueCall
        (CallPayload.queued (s.caughtUp h).now h.callNumber p) := by
  refine (receive_heard hh).trans ((atBay_bay (caughtUp_role hr)).trans ?_)
  unfold State.takeCall
  refine (if_pos (show ((s.caughtUp h).setHanded (s.caughtHanded h)).eval.roundRecord.isNew p.round = true
    from hnew)).trans ?_
  exact if_neg (Bool.eq_false_iff.1 hturn)

/-- The end of the event of an admitted CALL, but for the evaluator (R66 to R68). -/
theorem admitted_ends {r : RoundId} {E : Evaluator} {R : Bool}
    (he : BayEnds ((s.caughtUp h).admitted r E R (s.caughtHanded h)) t) :
    t.table = { (s.caughtUp h).table with
        reservations := (s.caughtUp h).table.reservations.filter fun x => !(olderRound r x.round) } ∧
      t.dli = (s.caughtUp h).dli.offersOut ((s.caughtUp h).table.olderRounds r) ∧
      Copied (s.caughtLanes h) (s.caughtBay h) (s.behind h) s t ∧
      { t with
        table := (s.caughtUp h).table, dli := (s.caughtUp h).dli, eval := (s.caughtUp h).eval
        retained := (s.caughtUp h).retained, handed := (s.caughtUp h).handed } = s.caughtUp h := by
  obtain ⟨hT, hD⟩ := he.uncaused rfl
  have hf := he.frame
  rw [← hT] at hf
  exact ⟨(congrArg State.table hf :), hD,
    he.copied caughtUp_retained rfl rfl (Bool.or_false _),
    (congrArg (fun v : State => { v with
      table := (s.caughtUp h).table, dli := (s.caughtUp h).dli, eval := (s.caughtUp h).eval
      retained := (s.caughtUp h).retained, handed := (s.caughtUp h).handed }) hf :)⟩

/-- A catch-up keeps an idle evaluator's queue empty (R64, R147). -/
theorem caughtUp_idle (hidle : s.eval.inFlight = none → s.eval.callQueue = []) :
    (s.caughtUp h).eval.inFlight = none → (s.caughtUp h).eval.callQueue = [] := by
  have hsame (he : (s.caughtUp h).eval = s.eval) :
      (s.caughtUp h).eval.inFlight = none → (s.caughtUp h).eval.callQueue = [] := by
    rw [he]
    exact hidle
  cases hk : leads h.callNumber s.tally.callNumber with
  | false => exact hsame (congrArg State.eval (catchUp_of_not_leads (s := s.acknowledge) hk) :)
  | true =>
    cases hr : s.conf.role with
    | ramp => exact hsame (congrArg State.eval (catchUp_ramp_eq (s := s.acknowledge) hk hr) :)
    | bay =>
      obtain ⟨H, hu⟩ := catchUp_bay_ends (s := s.acknowledge) hk hr
      have he : (s.caughtUp h).eval = _ :=
        (congrArg State.eval hu).trans (Evaluator.advances_eq _ s.eval)
      rw [he]
      intro hf
      dsimp only at hf ⊢
      rw [hidle (Option.map_eq_none_iff.1 hf)]
      rfl

theorem queued_eq (now : Nat) (k : Byte) (p : CallPayload) :
    CallPayload.queued now k p =
      { round := p.round, callNumber := k, deckMask := p.deckMask
        window := 10 * p.window.toNat, arrival := Arrival.ofWire p.arrival
        receipt := now, deadline := now + 5 * p.window.toNat } := by
  unfold CallPayload.queued
  rw [show 10 * p.window.toNat / 2 = 5 * p.window.toNat by omega]

/-- The count of dropped CALLs (R68). -/
theorem queued_dropped {c : QueuedCall} {e : Evaluator} (hd : e.dropped ≤ 255) :
    (e.queued c).dropped = if e.callQueue.length < 4 then e.dropped else min 255 (e.dropped + 1) := by
  have hmax : Config.maxCount = 255 := rfl
  unfold Evaluator.queued
  dsimp only
  rw [hmax]
  split
  · rfl
  · split <;> omega

/-- The event of an admitted CALL, by what its closing of older rounds leaves in evaluation (R67 to R70). -/
theorem exec_call_admitted {p : CallPayload} (hh : s.Hears h (.call p)) (hr : s.conf.role = .bay)
    (hnew : (s.caughtUp h).eval.roundRecord.isNew p.round = true)
    (hturn : (s.caughtUp h).turnsAway h.callNumber p.deckMask = false) {E : Evaluator} {R : Bool}
    (hE : (((s.caughtUp h).noted p.round (s.caughtHanded h)).closeOlderRounds p.round).queueCall
        (CallPayload.queued (s.caughtUp h).now h.callNumber p) =
      (s.caughtUp h).admitted p.round E R (s.caughtHanded h)) :
    ∃ t, exec (.call h p) s = .next t ∧
      BayEnds ((s.caughtUp h).admitted p.round E R (s.caughtHanded h)) t := by
  obtain ⟨t, ht, he⟩ := event_bay ((receive_call_admitted hh hr hnew hturn).trans hE)
    ⟨caughtUp_configured hh.1, (congrArg Conf.role caughtUp_conf).trans hr⟩ (.inl rfl)
  exact ⟨t, congrArg Host.Outcome.next ht, he⟩

/-- Settles O38. -/
theorem callAdmitted : Obligations.CallAdmitted := by
  intro s h p hh hr hp hra u hnew hact hline hcong hdeck hlags
  have hturn : u.turnsAway h.callNumber p.deckMask = false := by
    rw [Bool.eq_false_iff]
    intro ht
    rcases (turnsAway_iff _ _ _).1 ht with k | k | k | k | k
    · exact k hact
    · exact LineState.noConfusion (hline.symm.trans k)
    · exact Bool.noConfusion (hcong.symm.trans k)
    · exact Bool.noConfusion (hdeck.symm.trans k)
    · exact Bool.noConfusion (hlags.symm.trans k)
  have hidle : u.eval.inFlight = none → u.eval.callQueue = [] := caughtUp_idle hp.2.2
  have hnow : u.now = s.now := caughtUp_now
  have hwindow : 10 ≤ p.window.toNat :=
    ((wellFormed_iff h (.call p)).1 ((frameWellFormed_iff h _).1 hh.2.2).2.2.2.2).1
  have hqueued := queued_eq s.now h.callNumber p
  have hexec {E : Evaluator} {R : Bool} (hE : _) := exec_call_admitted (E := E) (R := R) hh hr hnew hturn hE
  rw [hnow] at hexec
  cases hfl : u.eval.inFlight.filter fun v => !(olderRound p.round v.call.round) with
  | some v =>
    obtain ⟨t, ht, he⟩ := hexec (admit_busy hfl)
    obtain ⟨htable, hdli, hcopied, hframe⟩ := admitted_ends he
    refine ⟨t, ht, htable, hdli, (congrArg Evaluator.roundRecord he.eval.2 :),
      (congrArg Evaluator.congested he.eval.2 :).trans hcong, ?_, hcopied, hframe⟩
    unfold olderRound at hfl
    dsimp only
    rw [hfl]
    dsimp only
    rw [← hqueued]
    refine ⟨?_, (congrArg Evaluator.callQueue he.eval.2 :), fun hd => ?_⟩
    · have hv : u.eval.inFlight = some v := (Option.filter_eq_some_iff.1 hfl).1
      have hk := he.eval.1
      have hask : ((s.caughtHanded h).restart || !(u.table.olderRounds p.round).isEmpty) = true ↔
          (u.table.olderRounds p.round ≠ [] ∨ s.caughtBay h = true) := by
        rw [Bool.or_eq_true, Bool.not_eq_true', ← Bool.not_eq_true, List.isEmpty_iff, or_comm]
        rfl
      by_cases ha : u.table.olderRounds p.round ≠ [] ∨ s.caughtBay h = true
      · refine Eq.trans ((if_pos (hask.2 ha)).mp hk) (Eq.trans ?_ (if_pos ha).symm)
        exact congrArg (Option.map _) hv
      · exact Eq.trans ((if_neg (hask.not.2 ha)).mp hk) (hv.trans (if_neg ha).symm)
    · exact (congrArg Evaluator.dropped he.eval.2 :).trans (queued_dropped hd)
  | none =>
    cases hlive : liveCalls s.now (u.notedEval p.round).callQueue with
    | nil =>
      obtain ⟨t, ht, he⟩ := hexec (admit_taken hfl hidle (hnow ▸ hlive) (by
        rw [hqueued, hnow]
        dsimp only
        omega))
      obtain ⟨htable, hdli, hcopied, hframe⟩ := admitted_ends he
      have heval := he.still rfl
      have hsnap : t.snapshot = _ := he.snapshot
      refine ⟨t, ht, htable, hdli, (congrArg Evaluator.roundRecord heval :),
        (congrArg Evaluator.congested heval :).trans hcong, ?_, hcopied, hframe⟩
      unfold olderRound at hfl
      unfold State.notedEval olderRound at hlive
      dsimp only at hlive ⊢
      rw [hfl]
      dsimp only
      rw [hlive]
      dsimp only
      rw [← hqueued, heval, hsnap]
      exact ⟨rfl, rfl, rfl⟩
    | cons x rest =>
      obtain ⟨t, ht, he⟩ := hexec (admit_behind hfl hidle (hnow ▸ hlive))
      obtain ⟨htable, hdli, hcopied, hframe⟩ := admitted_ends he
      have heval := he.still rfl
      have hsnap : t.snapshot = _ := he.snapshot
      refine ⟨t, ht, htable, hdli, (congrArg Evaluator.roundRecord heval :),
        (congrArg Evaluator.congested heval :).trans hcong, ?_, hcopied, hframe⟩
      unfold olderRound at hfl
      unfold State.notedEval olderRound at hlive
      dsimp only at hlive ⊢
      rw [hfl]
      dsimp only
      rw [hlive]
      dsimp only
      rw [← hqueued, heval, hsnap]
      exact ⟨rfl, rfl, fun hd => queued_dropped hd⟩

end Sys2Proof.Machine
end

section
/-! PROOFS. The ends of evaluations and reservations (O57, O58). -/

namespace Sys2Proof.Machine

open Sys2Proof

variable {s w t u : State} {f : State → State}

/-! ## The next CALL taken -/

/-- An effect that ends with the evaluation over and the next CALL taken, and hands on a restart at most
(R64, R69, R70). -/
theorem event_movedOn (hw : f s.unmoved = u.endEvaluation.takeNextCall) (hb : u.IsBay) (hq : u.Quiet)
    (ht : u.handed.tally = false) (hl : u.handed.lanes = []) (hi : u.handed.inbound = false)
    (hn : u.handed.node = false) :
    ∃ t, s.event f = t ∧ MovedOn u t ∧ { t with eval := u.eval, handed := u.handed } = u := by
  cases hlive : liveCalls u.now u.eval.callQueue with
  | nil =>
    obtain ⟨t, hev, he⟩ := event_bay (hw.trans (takeNextCall_nil rfl hlive)) hb hq
    obtain ⟨hT, hD⟩ := he.uncaused ht
    have hret := (he.copied (s := u) rfl hl hi (by
      show (u.handed.node || (u.handed.tally && _)) = false
      rw [hn, ht]
      rfl)).nothing
    have hf := he.frame
    rw [← hT, ← hD] at hf
    have hnow := (congrArg State.now hf :)
    refine ⟨t, hev, ?_, ?_⟩
    · unfold MovedOn
      rw [show t.now = u.now from hnow, hlive]
      exact he.eval_idle rfl
    · refine Eq.trans ?_ (congrArg (fun v : State => { v with eval := u.eval, handed := u.handed }) hf)
      rw [show t.retained = u.retained from hret]
      rfl
  | cons c rest =>
    obtain ⟨t, hev, he⟩ := event_bay (hw.trans (takeNextCall_cons rfl hlive)) hb hq
    obtain ⟨hT, hD⟩ := he.uncaused ht
    have hret := (he.copied (s := u) rfl hl hi (by
      show (u.handed.node || (u.handed.tally && _)) = false
      rw [hn, ht]
      rfl)).nothing
    have hf := he.frame
    rw [← hT, ← hD] at hf
    have hnow := (congrArg State.now hf :)
    have hsnap : t.snapshot = u.snapshot := he.snapshot
    refine ⟨t, hev, ?_, ?_⟩
    · unfold MovedOn
      rw [show t.now = u.now from hnow, hlive, hsnap]
      exact he.still rfl
    · refine Eq.trans ?_ (congrArg (fun v : State => { v with eval := u.eval, handed := u.handed }) hf)
      rw [show t.retained = u.retained from hret]
      rfl

/-- The evaluation in flight cut off, at a time the clock has reached. -/
theorem event_cutOff (hb : s.IsBay) {now : Nat}
    (hw : f s.unmoved = ({ s with now := now, handed := HandedOn.clear } : State).cutOff) :
    ∃ t, s.event f = t ∧ t.now = now ∧ MovedOn s t ∧
      { t with now := s.now, eval := s.eval, handed := s.handed } = s := by
  obtain ⟨t, ht, hm, hf⟩ := event_movedOn hw hb (.inl rfl) rfl rfl rfl rfl
  exact ⟨t, ht, (congrArg State.now hf :), hm,
    (congrArg (fun v : State => { v with now := s.now, handed := s.handed }) hf :)⟩

/-! ## Completions (R74 to R76) -/

theorem takeCompletion_flight {v : Evaluation} (hv : s.eval.inFlight = some v) :
    s.takeCompletion = if v.call.deadline < s.now then s.cutOff else s.completeEvaluation v := by
  unfold State.takeCompletion
  rw [hv]

/-- A reservation made, its OFFER handed in (R76). -/
theorem reserve_eq (c : QueuedCall) (x : Choice) (s : State) :
    s.reserve c x =
      { s with
        table := { s.table with
          reservations := s.table.reservations ++ [c.reservation x s.conf.awardGrace] }
        dli := s.dli.taking s.tally.callNumber (.offer (s.offerPayload c x))
        handed := { s.handed with
          restart := true
          drops := s.handed.drops ++ s.dli.dropsOf s.tally.callNumber (.offer (s.offerPayload c x)) } } := by
  unfold State.reserve
  rw [handIn_eq]
  cases s
  rfl

theorem execEvaluationCompletion_bay (hb : s.IsBay) :
    (if s.unmoved.IsBay then s.unmoved.takeCompletion else s.unmoved) = s.unmoved.takeCompletion :=
  if_pos hb

/-- Settles O57. -/
theorem evaluationReserves : Obligations.EvaluationReserves := by
  intro s hb hra v hv hdue x hx hroom hsuspect
  have hact : s.unmoved.takeCompletion = (s.unmoved.reserve v.call x).endEvaluation.takeNextCall := by
    rw [takeCompletion_flight (s := s.unmoved) hv, if_neg (not_lt.2 hdue)]
    unfold State.completeEvaluation
    rw [show chooseLane s.unmoved.conf v.snapshot v.call.arrival = some x from hx]
    dsimp only
    rw [if_neg (not_le.2 hroom), hsuspect]
    rfl
  rw [reserve_eq] at hact
  obtain ⟨t, ht, hm, hf⟩ := event_movedOn (f := fun s => if s.IsBay then s.takeCompletion else s)
    ((execEvaluationCompletion_bay hb).trans hact) hb (.inr (hra.idle hb)) rfl rfl rfl rfl
  exact ⟨t, congrArg Host.Outcome.next ht, (congrArg State.table hf :), (congrArg State.dli hf :), hm,
    (congrArg (fun v : State => { v with table := s.table, dli := s.dli, handed := s.handed }) hf :)⟩

/-- A chosen lane that carries the suspect mark turns to FAULT (R74). -/
theorem deferFault_eq {v : Evaluation} (hv : s.eval.inFlight = some v) (n : Nat) :
    ∃ K, K = s.table.updateLane n (fun l =>
        { l with stored := .fault l.stored.asRemembered, suspect := false }) ∧
      s.unmoved.deferFault n =
        { s with
          table := K
          conditions := raiseCondition s.now .laneFault (some n) s.conditions
          eval := { s.eval with
            inFlight := some { v with
              snapshot := ({ s with table := K } : State).snapshot, restarts := v.restarts + 1 } }
          handed := { HandedOn.clear with tally := true, lanes := [n] } } := by
  refine ⟨_, rfl, ?_⟩
  unfold State.deferFault State.restartEvaluation
  rw [show (((s.unmoved.updateLane n fun l =>
    { l with stored := .fault l.stored.asRemembered, suspect := false }).raise
      .laneFault (some n)).handTally.handLane n).eval.inFlight = some v from hv]
  rfl

/-- The completion of an evaluation whose chosen lane is suspect (R74). -/
theorem exec_completion_suspect {v : Evaluation} {x : Choice} (hb : s.IsBay)
    (hv : s.eval.inFlight = some v) (hdue : s.now ≤ v.call.deadline)
    (hx : chooseLane s.conf v.snapshot v.call.arrival = some x) (hroom : s.table.reservations.length < 4)
    (hsuspect : s.table.isSuspect x.lane = true) :
    ∃ t, exec .evaluationCompletion s = .next t ∧
      t.table = s.table.updateLane x.lane (fun l =>
        { l with stored := .fault l.stored.asRemembered, suspect := false }) ∧
      t.conditions = raiseCondition s.now .laneFault (some x.lane) s.conditions ∧
      EvaluatorKept true s t ∧ TallyCaused s.dli s t ∧ SumsMoved 0 0 s t ∧
      Copied [x.lane] false (s.buildsNow s.dli) s t ∧
      { t with
        table := s.table, conditions := s.conditions, eval := s.eval, tally := s.tally
        dli := s.dli, retained := s.retained, handed := s.handed } = s := by
  obtain ⟨K, hK, hdefer⟩ := deferFault_eq hv x.lane
  have hact : s.unmoved.takeCompletion = s.unmoved.deferFault x.lane := by
    rw [takeCompletion_flight (s := s.unmoved) hv, if_neg (not_lt.2 hdue)]
    unfold State.completeEvaluation
    rw [show chooseLane s.unmoved.conf v.snapshot v.call.arrival = some x from hx]
    dsimp only
    rw [if_neg (not_le.2 hroom), hsuspect]
    rfl
  obtain ⟨t, ht, he⟩ := event_bay (f := fun s => if s.IsBay then s.takeCompletion else s)
    ((execEvaluationCompletion_bay hb).trans (hact.trans hdefer)) hb (.inl rfl)
  have heval := he.still rfl
  have hsnap := he.snapshot
  have hf := he.frame
  refine ⟨t, congrArg Host.Outcome.next ht, (congrArg State.table hf :).trans hK,
    (congrArg State.conditions hf :), ⟨?_, ?_⟩, he.caused rfl rfl rfl rfl rfl,
    he.sums (Int.add_zero _).symm (Int.add_zero _).symm rfl rfl, he.copied rfl rfl rfl rfl,
    (congrArg (fun v : State => { v with
        table := s.table, conditions := s.conditions, eval := s.eval, tally := s.tally
        dli := s.dli, retained := s.retained, handed := s.handed }) hf :)⟩
  · rw [if_pos rfl, Restarted, heval, hv, hsnap]
    rfl
  · rw [heval]

/-- The expiry of a reservation (R97). -/
theorem exec_reservation_expires {r : RoundId} {x : Reservation} (hb : s.IsBay)
    (hx : s.table.reservations.find? (fun x => decide (x.round = r)) = some x) :
    ∃ t, exec (.reservationExpiry r) s = .next t ∧ t.now = max s.now x.expiry ∧
      t.table = { s.table with
        reservations := s.table.reservations.filter fun x => decide (x.round ≠ r) } ∧
      t.dli = s.dli.offersOut [r] ∧ EvaluatorKept true s t ∧
      { t with
        now := s.now, table := s.table, dli := s.dli, eval := s.eval
        handed := s.handed } = s := by
  have hround : decide (x.round = r) = true := by simpa using List.find?_some hx
  have hany : (s.table.reservations.any fun x => decide (x.round = r)) = true :=
    List.any_eq_true.2 ⟨x, List.mem_of_find?_eq_some hx, hround⟩
  have hact : (if s.unmoved.IsBay then s.unmoved.expireReservation r else s.unmoved) =
      { s with
        now := max s.now x.expiry
        table := { s.table with reservations := s.table.reservations.filter fun x => decide (x.round ≠ r) }
        dli := s.dli.offersOut [r]
        handed := { HandedOn.clear with restart := true } } := by
    refine (if_pos (show s.unmoved.IsBay from hb)).trans ?_
    unfold State.expireReservation
    rw [show s.unmoved.table.reservations.find? (fun x => decide (x.round = r)) = some x from hx]
    dsimp only
    rw [releaseRound_held]
    rw [show ((s.unmoved.reach x.expiry).table.reservations.any fun x => decide (x.round = r)) = true
      from hany]
    cases s
    rfl
  obtain ⟨t, ht, he⟩ := event_bay (f := fun s => if s.IsBay then s.expireReservation r else s)
    hact hb (.inl rfl)
  obtain ⟨hT, hD⟩ := he.uncaused rfl
  have hret := (he.copied (s := s) rfl rfl rfl rfl).nothing
  have hf := he.frame
  refine ⟨t, congrArg Host.Outcome.next ht, (congrArg State.now hf :), (congrArg State.table hf :), hD,
    he.evaluator rfl rfl, ?_⟩
  refine Eq.trans ?_ (congrArg (fun v : State => { v with
    now := s.now, table := s.table, dli := s.dli, eval := s.eval, handed := s.handed }) hf)
  rw [show t.retained = s.retained from hret, show t.tally = s.tally from hT]

/-- A completion that reserves nothing (R73, R75). -/
theorem takeCompletion_cut {v : Evaluation} (hv : s.eval.inFlight = some v)
    (h : chooseLane s.conf v.snapshot v.call.arrival = none ∨ 4 ≤ s.table.reservations.length ∨
      v.call.deadline < s.now) : s.takeCompletion = s.cutOff := by
  rw [takeCompletion_flight hv]
  split
  · rfl
  · rename_i hdue
    unfold State.completeEvaluation
    cases hx : chooseLane s.conf v.snapshot v.call.arrival with
    | none => rfl
    | some x =>
      dsimp only
      rcases h with h | h | h
      · exact absurd (hx.symm.trans h) (Option.some_ne_none x)
      · exact if_pos h
      · exact absurd h hdue

theorem takeDeadline_flight {r : RoundId} {v : Evaluation} (hv : s.eval.inFlight = some v) :
    s.takeDeadline r = if v.call.round = r then (s.reach v.call.deadline).cutOff else s := by
  unfold State.takeDeadline
  rw [hv]

/-- Settles O58. -/
theorem evaluationsAndReservationsEnd : Obligations.EvaluationsAndReservationsEnd := by
  refine ⟨fun s r hb hra => ⟨fun v hv => ⟨fun h => ?_, fun hr => ?_, fun hr => ?_, fun hdue x hx hroom hs => ?_⟩,
    fun hnone => ⟨?_, ?_⟩⟩, fun s r hb => ⟨fun x hx => exec_reservation_expires hb hx, fun hnone => ?_⟩⟩
  · obtain ⟨t, ht, hnow, hm, hf⟩ := event_cutOff (f := fun s => if s.IsBay then s.takeCompletion else s)
      hb (now := s.now) ((execEvaluationCompletion_bay hb).trans
        (takeCompletion_cut (s := s.unmoved) hv h))
    exact ⟨t, congrArg Host.Outcome.next ht, hm, by rw [← hf, hnow]⟩
  · obtain ⟨t, ht, hnow, hm, hf⟩ := event_cutOff (f := fun s => if s.IsBay then s.takeDeadline r else s)
      hb (now := max s.now v.call.deadline) ((if_pos (show s.unmoved.IsBay from hb)).trans
        ((takeDeadline_flight (s := s.unmoved) hv).trans (if_pos hr.symm)))
    exact ⟨t, congrArg Host.Outcome.next ht, hnow, hm, hf⟩
  · exact congrArg Host.Outcome.next (event_unmoved
      (f := fun s => if s.IsBay then s.takeDeadline r else s)
      ((if_pos (show s.unmoved.IsBay from hb)).trans
        ((takeDeadline_flight (s := s.unmoved) hv).trans (if_neg fun h => hr h.symm))))
  · exact exec_completion_suspect hb hv hdue hx hroom hs
  · refine congrArg Host.Outcome.next (event_unmoved
      (f := fun s => if s.IsBay then s.takeCompletion else s) ((execEvaluationCompletion_bay hb).trans ?_))
    unfold State.takeCompletion
    rw [show s.unmoved.eval.inFlight = none from hnone]
  · refine congrArg Host.Outcome.next (event_unmoved
      (f := fun s => if s.IsBay then s.takeDeadline r else s)
      ((if_pos (show s.unmoved.IsBay from hb)).trans ?_))
    unfold State.takeDeadline
    rw [show s.unmoved.eval.inFlight = none from hnone]
  · refine congrArg Host.Outcome.next (event_unmoved
      (f := fun s => if s.IsBay then s.expireReservation r else s)
      ((if_pos (show s.unmoved.IsBay from hb)).trans ?_))
    unfold State.expireReservation
    rw [show s.unmoved.table.reservations.find? (fun x => decide (x.round = r)) = none from
      List.find?_eq_none.2 fun x hx hs => hnone x hx (of_decide_eq_true hs)]

end Sys2Proof.Machine
end

section
/-! PROOFS. The close of a survey and the end of the listen interval (O51). -/

namespace Sys2Proof.Machine

open Sys2Proof

variable {s w t u : State} {f : State → State}

/-! ## The passage to ACTIVE (R175, R183) -/

theorem markUnreplied_eq (replied : List Nat) (ls : List Lane) :
    markUnreplied replied ls =
      ls.map fun k => if k.number ∈ replied then k else { k with suspect := true } := by
  refine List.map_congr_left fun k _ => ?_
  by_cases hk : k.number ∈ replied
  · rw [if_pos hk, if_pos (List.contains_iff_mem.2 hk)]
  · rw [if_neg hk, if_neg fun h => hk (List.contains_iff_mem.1 h)]
    rfl

/-- A bay that passes to ACTIVE (R175, R183). -/
theorem event_bayToActive (hw : f s.unmoved = (u.setHanded HandedOn.clear).bayToActive)
    (hb : u.IsBay) :
    ∃ t, s.event f = t ∧ t.node = .active ∧
      t.table = { u.table with
        lanes := u.table.lanes.map fun k =>
          if k.number ∈ u.sensor.replied then k else { k with suspect := true } } ∧
      TallyCaused u.dli u t ∧ SumsMoved 0 0 u t ∧ Copied [] false (u.buildsNow u.dli) u t ∧
      { t with
        node := u.node, table := u.table, tally := u.tally, dli := u.dli
        retained := u.retained, handed := u.handed } = u := by
  have hact : (u.setHanded HandedOn.clear).bayToActive =
      { u with
        node := .active
        table := { u.table with lanes := markUnreplied u.sensor.replied u.table.lanes }
        handed := { HandedOn.clear with tally := true } } := by
    cases u
    rfl
  obtain ⟨t, ht, he⟩ := event_bay (hw.trans hact) ⟨⟨hb.1.1, NodeState.noConfusion⟩, hb.2⟩ (.inl rfl)
  have hf := he.frame_still rfl
  refine ⟨t, ht, (congrArg State.node hf :), (congrArg State.table hf :).trans ?_,
    he.caused rfl rfl rfl rfl rfl, he.sums (Int.add_zero _).symm (Int.add_zero _).symm rfl rfl,
    he.copied rfl rfl rfl rfl,
    (congrArg (fun v : State => { v with
      node := u.node, table := u.table, tally := u.tally, dli := u.dli
      retained := u.retained, handed := u.handed }) hf :)⟩
  rw [markUnreplied_eq]

/-- A bay that becomes WITHDRAWN, its survey closed before (R175). -/
theorem event_withdraw (hw : f s.unmoved = (u.setHanded HandedOn.clear).withdraw)
    (hb : u.IsBay) (hs : u.sensor.surveyDue = none)
    (hi : u.rounds.openRound = none ∧ u.rounds.dispatched = []) :
    ∃ t, s.event f = t ∧ t.node = .withdrawn ∧
      t.conditions = raiseCondition u.now .withdrawn none u.conditions ∧
      (let d := u.dli.taking u.tally.callNumber .noticeWithdrawn;
      TallyCaused d u t ∧ SumsMoved 0 0 u t ∧ Copied [] false (u.buildsNow d) u t) ∧
      { t with
        node := u.node, conditions := u.conditions, tally := u.tally, dli := u.dli
        retained := u.retained, handed := u.handed } = u := by
  have hsensor : { u.sensor with surveyDue := none } = u.sensor := by rw [← hs]
  obtain ⟨ds, hact⟩ := (u.setHanded HandedOn.clear).withdraw_eq
  rw [show { (u.setHanded HandedOn.clear).sensor with surveyDue := none } = u.sensor from hsensor] at hact
  obtain ⟨t, ht, he⟩ := event_bay (hw.trans hact) ⟨⟨hb.1.1, NodeState.noConfusion⟩, hb.2⟩ (.inr hi)
  have hf := he.frame_still rfl
  exact ⟨t, ht, (congrArg State.node hf :), (congrArg State.conditions hf :),
    ⟨he.caused rfl rfl rfl rfl rfl, he.sums (Int.add_zero _).symm (Int.add_zero _).symm rfl rfl,
      he.copied rfl rfl rfl rfl⟩,
    (congrArg (fun v : State => { v with
      node := u.node, conditions := u.conditions, tally := u.tally, dli := u.dli
      retained := u.retained, handed := u.handed }) hf :)⟩

/-! ## The close of a survey -/

/-- The bay with its survey closed, its clock at the time of the close (R173). -/
def State.surveyClosed (now : Nat) (s : State) : State :=
  { s with now := now, sensor := { s.sensor with surveyDue := none } }

/-- What follows a close of the survey, by END or by its timer, in each node state (R175, R182, R183). -/
def State.afterClose (end_ : Bool) (v : State) : State :=
  match v.node with
  | .listen => v.maybeActive
  | .recovery => if end_ then v.bayToActive else v.withdraw
  | .active => v
  | .withdrawn => v
  | .unconfigured => v

/-- END and the expiry of the survey timer close the survey that is outstanding (R173). -/
theorem exec_surveyClose {c : Instr} {end_ : Bool} {due : Nat} (hb : s.IsBay)
    (hc : c = if end_ then .surveyEnd { word := checkWord [6] } else .surveyTimerExpiry)
    (hdue : s.sensor.surveyDue = some due) (hn : s.node ≠ .withdrawn ∨ end_ = false) :
    ∃ f, exec c s = .next (s.event f) ∧
      f s.unmoved = ((s.surveyClosed (if end_ then s.now else max s.now due)).setHanded
        HandedOn.clear).afterClose end_ := by
  cases end_ with
  | true =>
    rw [if_pos rfl] at hc
    subst hc
    have hne : s.unmoved.sensor.surveyDue ≠ none := fun h => Option.some_ne_none due (hdue.symm.trans h)
    refine ⟨_, rfl, (sensorMessage_taken (s := s.unmoved) hb (messageAgrees_of rfl)).trans
      ((if_pos ⟨hne, hn.resolve_right fun h => Bool.noConfusion h⟩).trans ?_)⟩
    unfold State.takeEnd State.afterClose
    cases s with
    | mk _ _ _ _ node => cases node <;> rfl
  | false =>
    rw [if_neg Bool.false_ne_true] at hc
    subst hc
    refine ⟨_, rfl, (if_pos (show s.unmoved.IsBay from hb)).trans ?_⟩
    unfold State.takeSurveyExpiry
    rw [show s.unmoved.sensor.surveyDue = some due from hdue]
    unfold State.afterClose
    dsimp only
    unfold State.expireSurvey
    cases s with
    | mk _ _ _ _ node => cases node <;> rfl

/-- A bay in LISTEN whose listen interval is over, its survey closed, passes to ACTIVE (R183). -/
theorem maybeActive_bay (hn : s.node = .listen) (hl : s.listenDue = none) (hr : s.conf.role = .bay)
    (hs : s.sensor.surveyDue = none) : s.maybeActive = s.bayToActive := by
  unfold State.maybeActive
  rw [if_pos ⟨hn, hl⟩, hr]
  exact if_pos hs

/-- A close that finds nothing more to do changes its timer alone (R173, R183). -/
theorem event_only (hw : f s.unmoved = u.setHanded HandedOn.clear) :
    s.event f = u.setHanded HandedOn.clear :=
  (State.event_of_clear (congrArg State.handed hw :)).trans hw

/-- The end of the listen interval reaches a configured node (R183). -/
theorem listenEnd_some {due : Nat} (hc : s.Configured) (hdue : s.listenDue = some due) :
    (if s.unmoved.Configured then s.unmoved.takeListenEnd else s.unmoved) =
      State.maybeActive { s with
        now := max s.now due, listenDue := none, handed := HandedOn.clear } := by
  refine (if_pos (show s.unmoved.Configured from hc)).trans ?_
  unfold State.takeListenEnd
  rw [show s.unmoved.listenDue = some due from hdue]
  rfl

/-- Settles O51, by the node state in which a survey is closed or the listen interval ends. -/
theorem surveyAndListenEnd : Obligations.SurveyAndListenEnd := by
  refine ⟨fun s c end_ hb hra hc => ⟨fun due hdue => ⟨fun h => ?_, fun hn he => ?_, fun h => ?_⟩, fun h => ?_⟩,
    fun s hc hra => ⟨fun hn due hdue => ⟨fun hr => ?_, fun hr hs => ?_, fun hr hs => ?_⟩, fun hnone => ?_⟩⟩
  · have hn : s.node ≠ .withdrawn := by
      rcases h with ⟨h, _⟩ | ⟨h, _⟩ <;> rw [h] <;> exact NodeState.noConfusion
    obtain ⟨f, hf, hact⟩ := exec_surveyClose hb hc hdue (.inl hn)
    have hto : State.afterClose end_ ((s.surveyClosed (if end_ then s.now else max s.now due)).setHanded
        HandedOn.clear) = ((s.surveyClosed (if end_ then s.now else max s.now due)).setHanded
          HandedOn.clear).bayToActive := by
      unfold State.afterClose
      rcases h with ⟨h, he⟩ | ⟨h, hl⟩
      · rw [show ((s.surveyClosed (if end_ then s.now else max s.now due)).setHanded
          HandedOn.clear).node = .recovery from h]
        exact if_pos he
      · rw [show ((s.surveyClosed (if end_ then s.now else max s.now due)).setHanded
          HandedOn.clear).node = .listen from h]
        exact maybeActive_bay h hl hb.2 rfl
    obtain ⟨t, ht, hends⟩ := event_bayToActive (hact.trans hto) hb
    exact ⟨t, hf.trans (congrArg Host.Outcome.next ht), hends⟩
  · obtain ⟨f, hf, hact⟩ := exec_surveyClose hb hc hdue (.inr he)
    have hto : State.afterClose end_ ((s.surveyClosed (if end_ then s.now else max s.now due)).setHanded
        HandedOn.clear) = ((s.surveyClosed (if end_ then s.now else max s.now due)).setHanded
          HandedOn.clear).withdraw := by
      unfold State.afterClose
      rw [show ((s.surveyClosed (if end_ then s.now else max s.now due)).setHanded
          HandedOn.clear).node = .recovery from hn]
      exact if_neg (he ▸ Bool.false_ne_true)
    obtain ⟨t, ht, hends⟩ := event_withdraw (hact.trans hto) hb rfl (hra.idle hb)
    exact ⟨t, hf.trans (congrArg Host.Outcome.next ht), hends⟩
  · have hn : s.node ≠ .withdrawn := by
      rcases h with ⟨h, _⟩ | h <;> rw [h] <;> exact NodeState.noConfusion
    obtain ⟨f, hf, hact⟩ := exec_surveyClose hb hc hdue (.inl hn)
    have hto : State.afterClose end_ ((s.surveyClosed (if end_ then s.now else max s.now due)).setHanded
        HandedOn.clear) = (s.surveyClosed (if end_ then s.now else max s.now due)).setHanded
          HandedOn.clear := by
      unfold State.afterClose
      rcases h with ⟨h, hl⟩ | h
      · rw [show ((s.surveyClosed (if end_ then s.now else max s.now due)).setHanded
          HandedOn.clear).node = .listen from h]
        exact if_neg fun k => hl k.2
      · rw [show ((s.surveyClosed (if end_ then s.now else max s.now due)).setHanded
          HandedOn.clear).node = .active from h]
    exact hf.trans (congrArg Host.Outcome.next (event_only (hact.trans hto)))
  · cases end_ with
    | true =>
      rw [if_pos rfl] at hc
      subst hc
      refine congrArg Host.Outcome.next (event_unmoved
        ((sensorMessage_taken (s := s.unmoved) hb (messageAgrees_of rfl)).trans
          (if_neg fun k => ?_)))
      rcases h with h | h
      · exact k.1 h
      · exact k.2 h.1
    | false =>
      rw [if_neg Bool.false_ne_true] at hc
      subst hc
      have hnone : s.unmoved.sensor.surveyDue = none := h.resolve_right fun k => Bool.noConfusion k.2
      refine congrArg Host.Outcome.next (event_unmoved
        (f := fun s => if s.IsBay then s.takeSurveyExpiry else s)
        ((if_pos (show s.unmoved.IsBay from hb)).trans ?_))
      unfold State.takeSurveyExpiry
      rw [hnone]
  · obtain ⟨t, ht, hlook⟩ := event_looked (f := fun s => if s.Configured then s.takeListenEnd else s)
      (u := { s with now := max s.now due, listenDue := none, node := .active })
      ((listenEnd_some hc hdue).trans (by
        unfold State.maybeActive
        refine (if_pos ⟨hn, rfl⟩).trans ?_
        dsimp only
        rw [hr]
        rfl)) ⟨⟨hc.1, NodeState.noConfusion⟩, hr⟩
    exact ⟨t, congrArg Host.Outcome.next ht, hlook⟩
  · obtain ⟨t, ht, hends⟩ := event_bayToActive
      (f := fun s => if s.Configured then s.takeListenEnd else s)
      (u := { s with now := max s.now due, listenDue := none })
      ((listenEnd_some hc hdue).trans (maybeActive_bay hn rfl hr hs)) ⟨hc, hr⟩
    exact ⟨t, congrArg Host.Outcome.next ht, hends⟩
  · refine congrArg Host.Outcome.next (event_only
      (f := fun s => if s.Configured then s.takeListenEnd else s)
      (u := { s with now := max s.now due, listenDue := none }) ((listenEnd_some hc hdue).trans ?_))
    unfold State.maybeActive
    refine (if_pos ⟨hn, rfl⟩).trans ?_
    dsimp only
    rw [hr]
    exact if_neg hs
  · refine congrArg Host.Outcome.next (event_unmoved
      (f := fun s => if s.Configured then s.takeListenEnd else s)
      ((if_pos (show s.unmoved.Configured from hc)).trans ?_))
    unfold State.takeListenEnd
    rw [show s.unmoved.listenDue = none from hnone]

end Sys2Proof.Machine
end

section
/-! PROOFS. LEVEL at a bay: the removals from the tail, the record appended, and how the event ends (O50). -/

namespace Sys2Proof.Machine

open Sys2Proof

variable {s w t u v : State} {f : State → State} {l : Lane} {n j i : Nat} {m : Int}

/-! ## A lane cut off behind its first records -/

/-- What is left of a lane `l`, its first `i` records alone, written into the lane record `k` (R9, R10, R174). -/
def Lane.cutTo (gap : Int) (l : Lane) (i : Nat) (k : Lane) : Lane :=
  { k with
    placed := l.placed.take i
    used := l.used - extentSum gap (l.placed.drop i)
    sockets := l.sockets - grantedCount (l.placed.drop i) }

/-- The bay with a lane cut off behind its first `i` records, each removal raising EARLY REMOVAL (R49, R174). -/
def State.cutTo (n : Nat) (l : Lane) (i : Nat) (s : State) : State :=
  { s with
    table := s.table.updateLane n (Lane.cutTo s.conf.gap l i)
    tally := { s.tally with
      ownT := s.tally.ownT - ((l.placed.drop i).map (Record.mT l.conf)).sum
      ownL := s.tally.ownL - ((l.placed.drop i).map (Record.mL l.conf)).sum }
    conditions := (raiseCondition s.now .earlyRemoval (some n))^[(l.placed.drop i).length] s.conditions }

/-- What removals from a lane hand on (R18). -/
def HandedOn.removals (n k : Nat) : HandedOn :=
  { HandedOn.clear with restart := decide (0 < k), tally := decide (0 < k), lanes := List.replicate k n }

/-- The bay in the middle of a LEVEL, `i` records of the lane left. -/
def State.levelAt (n : Nat) (l : Lane) (i : Nat) (s : State) : State :=
  (s.cutTo n l i).setHanded (HandedOn.removals n (l.placed.drop i).length)

/-- Nothing removed. -/
theorem levelAt_length (hl : s.table.lane? n = some l) (hd : s.table.Distinct) :
    s.levelAt n l l.placed.length = s.unmoved := by
  have htable : s.table.updateLane n (Lane.cutTo s.conf.gap l l.placed.length) = s.table := by
    refine updateLane_same hd fun k hk => ?_
    obtain rfl := Option.some.inj (hk.symm.trans hl)
    unfold Lane.cutTo
    rw [List.take_length, List.drop_length]
    simp [grantedCount]
  unfold State.levelAt State.cutTo
  rw [htable, List.drop_length]
  simp only [List.map_nil, List.sum_nil, Int.sub_zero, List.length_nil, Function.iterate_zero, id_eq]
  rfl

/-- The lane as it stands with `i` records left (R1). -/
theorem levelAt_lane (hl : s.table.lane? n = some l) :
    (s.levelAt n l i).table.lane? n = some (l.cutTo s.conf.gap i l) := by
  refine (LaneTable.lane?_updateLane (f := Lane.cutTo s.conf.gap l i) (fun _ => rfl) s.table n).trans ?_
  rw [hl, Option.map_some, if_pos (LaneTable.lane?_some hl).2]

/-- One more removal from the tail (R134, R174). -/
theorem levelAt_remove {r : Record} (hn : l.number = n) (hr : l.placed[i]? = some r) :
    ((s.levelAt n l (i + 1)).removeRecord (l.cutTo s.conf.gap (i + 1) l) r).raise .earlyRemoval (some n) =
      s.levelAt n l i := by
  obtain ⟨hi, hget⟩ := List.getElem?_eq_some_iff.1 hr
  have hdrop : l.placed.drop i = r :: l.placed.drop (i + 1) := by
    rw [List.drop_eq_getElem_cons hi, hget]
  have htake : (l.placed.take (i + 1)).dropLast = l.placed.take i := by
    rw [List.take_succ_eq_append_getElem hi, List.dropLast_concat]
  have htable : (s.levelAt n l (i + 1)).table.updateLane n (Lane.removeTail s.conf.gap r) =
      s.table.updateLane n (Lane.cutTo s.conf.gap l i) := by
    refine (updateLane_updateLane (f := Lane.cutTo s.conf.gap l (i + 1)) (fun _ => rfl)
      s.table).trans (congrArg (s.table.updateLane n) (funext fun k => ?_))
    unfold Lane.removeTail Lane.cutTo
    dsimp only
    rw [htake, hdrop, extentSum_cons]
    have hgranted : (if r.granted = true then l.sockets - grantedCount (l.placed.drop (i + 1)) - 1
        else l.sockets - grantedCount (l.placed.drop (i + 1))) =
          l.sockets - grantedCount (r :: l.placed.drop (i + 1)) := by
      unfold grantedCount
      rw [List.countP_cons]
      split <;> omega
    rw [hgranted, show l.used - extentSum s.conf.gap (l.placed.drop (i + 1)) - r.extent s.conf.gap =
      l.used - (r.extent s.conf.gap + extentSum s.conf.gap (l.placed.drop (i + 1))) by omega]
  rw [removeRecord_eq]
  have hnum : (l.cutTo s.conf.gap (i + 1) l).number = n := hn
  rw [hnum, show (s.levelAt n l (i + 1)).conf.gap = s.conf.gap from rfl, htable]
  unfold State.levelAt State.cutTo HandedOn.removals
  rw [hdrop]
  have hsum (a b c : Int) : a - (b + c) = a - c + -b := by omega
  rw [List.map_cons, List.sum_cons, List.map_cons, List.sum_cons, List.length_cons,
    Function.iterate_succ_apply', List.replicate_succ', decide_eq_true (Nat.succ_pos _), hsum, hsum]
  cases s
  rfl

/-! ## The removals of a LEVEL (R174) -/

/-- What the measured length is above the expected one, with `i` records left (R174). -/
def Lane.excess (gap m : Int) (i : Nat) (l : Lane) : Int :=
  m - (if l.placed.take i = [] then 0 else l.used - extentSum gap (l.placed.drop i) - gap)

theorem excess_eq (gap m : Int) (i : Nat) (l : Lane) :
    m - (l.cutTo gap i l).expected gap = l.excess gap m i := by
  unfold Lane.excess Lane.expected Lane.cutTo
  simp only [List.isEmpty_iff]

/-- The removals go on while the lane is measured shorter than it should be, and then stop (R174). -/
theorem surveyRemovals_levelAt (hl : s.table.lane? n = some l)
    (hgoes : ∀ i, i ≤ l.placed.length → j < i → l.excess s.conf.gap m i < -s.conf.tolerance)
    (hstops : -s.conf.tolerance ≤ l.excess s.conf.gap m j) (fuel : Nat) :
    ∀ i, j ≤ i → i ≤ l.placed.length → i - j ≤ fuel →
      State.surveyRemovals fuel n m (s.levelAt n l i) = s.levelAt n l j := by
  have hn := (LaneTable.lane?_some hl).2
  induction fuel with
  | zero =>
    intro i hj _ hf
    rw [show i = j by omega]
    rfl
  | succ fuel ih =>
    intro i hj hi hf
    unfold State.surveyRemovals
    rw [levelAt_lane hl]
    dsimp only
    rw [show (s.levelAt n l i).conf = s.conf from rfl, excess_eq]
    cases i with
    | zero =>
      rw [show j = 0 by omega]
      rfl
    | succ i =>
      have hr : l.placed[i]? = some l.placed[i] := List.getElem?_eq_getElem hi
      have htail : (l.cutTo s.conf.gap (i + 1) l).tail? = some l.placed[i] := by
        show (l.placed.take (i + 1)).getLast? = _
        rw [List.take_succ_eq_append_getElem hi, List.getLast?_concat]
      rw [htail]
      dsimp only
      by_cases hji : j = i + 1
      · rw [← hji]
        exact if_neg (not_lt.2 hstops)
      · rw [if_pos (hgoes (i + 1) hi (by omega)), levelAt_remove hn hr]
        exact ih i (by omega) (by omega) (by omega)

/-- The removals of a LEVEL leave the first `j` records (R174). -/
theorem surveyRemovals_eq (hl : s.table.lane? n = some l) (hd : s.table.Distinct)
    (hj : j ≤ l.placed.length)
    (hgoes : ∀ i, i ≤ l.placed.length → j < i → l.excess s.conf.gap m i < -s.conf.tolerance)
    (hstops : -s.conf.tolerance ≤ l.excess s.conf.gap m j) :
    State.surveyRemovals l.placed.length n m s.unmoved = s.levelAt n l j := by
  rw [← levelAt_length hl hd]
  exact surveyRemovals_levelAt hl hgoes hstops _ _ hj le_rfl (Nat.sub_le _ _)

/-! ## The record appended, and the end of the event -/

/-- A LEVEL that finds the lane longer than it should be by 10 dm or more wants a record appended (R174). -/
def State.wantsRecord (l : Lane) (m : Int) (j : Nat) (s : State) : Bool :=
  decide (s.conf.tolerance < l.excess s.conf.gap m j) &&
    decide (10 ≤ m - (l.used - extentSum s.conf.gap (l.placed.drop j)))

/-- The append of a LEVEL, by room and wish (R174). -/
theorem surveyAppend_eq (hl : s.table.lane? n = some l) (hj : j ≤ l.placed.length) :
    (s.levelAt n l j).surveyAppend n m =
      if s.wantsRecord l m j = true then
        if j < 24 then
          ((s.levelAt n l j).placeUnidentified (l.cutTo s.conf.gap j l)
            (m - (l.used - extentSum s.conf.gap (l.placed.drop j))), true)
        else (s.levelAt n l j, false)
      else (s.levelAt n l j, true) := by
  have hlen : (l.cutTo s.conf.gap j l).placed.length = j := List.length_take_of_le hj
  unfold State.surveyAppend
  rw [levelAt_lane hl]
  dsimp only
  rw [show (s.levelAt n l j).conf = s.conf from rfl, excess_eq, hlen]
  unfold State.wantsRecord
  by_cases hex : s.conf.tolerance < l.excess s.conf.gap m j
  · rw [if_pos hex, decide_eq_true hex, Bool.true_and]
    by_cases hroom : 10 ≤ m - (l.used - extentSum s.conf.gap (l.placed.drop j))
    · rw [decide_eq_true hroom, if_pos rfl]
      refine (if_neg (not_lt.2 hroom)).trans ?_
      by_cases h24 : j < 24
      · rw [if_pos h24]
        exact if_neg (not_le.2 h24)
      · rw [if_neg h24]
        exact if_pos (not_lt.1 h24)
    · rw [decide_eq_false hroom, if_neg Bool.false_ne_true]
      exact if_pos (not_le.1 hroom)
  · rw [if_neg hex, decide_eq_false hex, Bool.false_and, if_neg Bool.false_ne_true]

/-- What is handed on as lanes counts by the lanes alone, not by how often (R18, R179). -/
theorem BayEnds.lanes_congr {H : HandedOn} {ns : List Nat} (he : BayEnds (w.setHanded H) t)
    (hn : H.lanes.dedup = ns.dedup) : BayEnds (w.setHanded { H with lanes := ns }) t := by
  have hc := he.copies
  refine ⟨he.eval, he.tally, ?_, (congrArg (fun v : State => v.setHanded { H with lanes := ns }) he.frame :),
    he.clear⟩
  unfold Copied at hc ⊢
  rw [show (w.setHanded H).handed.lanes.dedup = ns.dedup from hn] at hc
  exact hc

/-- An event whose effect ends in an inconsistency on what it made of the state. -/
theorem event_found {H : HandedOn} {ns : List Nat} (hb : v.IsBay)
    (hi : v.rounds.openRound = none ∧ v.rounds.dispatched = [])
    (hn : v.node ≠ .withdrawn) (hret : v.retained = s.retained) (hinb : H.inbound = false)
    (hnode : H.node = false) (hns : H.lanes.dedup = ns.dedup)
    (hf : f s.unmoved = (v.setHanded H).inconsistency n) :
    ∃ t, s.event f = t ∧
      EventEnds H.restart (H.tally || decide (v.node ≠ .listen)) ns s (v.foundInconsistent n) t := by
  obtain ⟨K, hk, hlanes, hki, hkn, htally, hrestart⟩ :=
    inconsistency_eq (s := v.setHanded H) n hn hb.1.2
  rw [State.foundInconsistent_setHanded] at hk hrestart
  rw [← foundInconsistent_rounds n] at hi
  obtain ⟨t, ht, he⟩ := event_bay (w := (v.foundInconsistent n).setHanded K) (hf.trans hk)
    (foundInconsistent_isBay n hb) (.inr hi)
  have he := he.lanes_congr ((congrArg List.dedup hlanes).trans hns)
  exact ⟨t, ht, he.eventEnds hrestart htally rfl (hki.trans hinb) (hkn.trans hnode)
    ((v.foundInconsistent_retained n).trans hret)⟩

/-- An event of a bay, as EventEnds says it, from the lanes that it hands on. -/
theorem event_handed {H : HandedOn} {ns : List Nat} (hb : v.IsBay) (hret : v.retained = s.retained)
    (hinb : H.inbound = false) (hnode : H.node = false) (hd : H.drops = []) (hns : H.lanes.dedup = ns.dedup)
    (hf : f s.unmoved = v.setHanded H) :
    ∃ t, s.event f = t ∧ EventEnds H.restart H.tally ns s v t := by
  obtain ⟨t, ht, he⟩ := event_bay hf hb (.inl hd)
  exact ⟨t, ht, (he.lanes_congr hns).eventEnds (.inl rfl) rfl rfl hinb hnode hret⟩

/-! ## LEVEL -/

theorem foldl_map_const {α β γ : Type} (g : γ → β → γ) (c : β) (xs : List α) (x : γ) :
    (xs.map fun _ => c).foldl g x = (fun y => g y c)^[xs.length] x := by
  induction xs generalizing x with
  | nil => rfl
  | cons a xs ih => rw [List.map_cons, List.foldl_cons, ih, List.length_cons, Function.iterate_succ_apply]

/-- The bay that a LEVEL leaves: `j` records left in the lane, and one appended when `added` holds (R174). -/
def State.levelled (n : Nat) (l : Lane) (m : Int) (j : Nat) (added : Bool) (s : State) : State :=
  let gone := l.placed.drop j
  let used := l.used - extentSum s.conf.gap (l.placed.drop j)
  { s with
    table := { s.table with
      lanes := s.table.lanes.map fun k =>
        if k.number = n then
          { k with
            placed := l.placed.take j ++ (if added = true then
              [unidentified s.conf.unidentifiedWeight (m - used) used] else [])
            used := if added = true then m + s.conf.gap else used
            sockets := l.sockets - grantedCount gone }
        else k }
    tally := { s.tally with
      ownT := s.tally.ownT - (gone.map (Record.mT l.conf)).sum +
        (if added = true then s.conf.unidentifiedWeight * l.conf.y else 0)
      ownL := s.tally.ownL - (gone.map (Record.mL l.conf)).sum +
        (if added = true then s.conf.unidentifiedWeight *
          max (-1200) (min 1200 (l.conf.xf - used - (m - used) / 2)) else 0) }
    conditions :=
      (gone.map (fun _ => Code.earlyRemoval) ++
        (if added = true then [Code.unidentifiedVehicle] else [])).foldl
        (fun cs k => raiseCondition s.now k (some l.number) cs) s.conditions }

theorem levelAt_levelled (hn : l.number = n) :
    s.levelAt n l j =
      (s.levelled n l m j false).setHanded (HandedOn.removals n (l.placed.drop j).length) := by
  unfold State.levelAt State.cutTo State.levelled
  dsimp only
  rw [List.foldl_append, foldl_map_const, hn]
  simp only [Bool.false_eq_true, if_false, List.append_nil, Int.add_zero]
  rfl

theorem placeUnidentified_levelled (hn : l.number = n) :
    (s.levelAt n l j).placeUnidentified (l.cutTo s.conf.gap j l)
        (m - (l.used - extentSum s.conf.gap (l.placed.drop j))) =
      (s.levelled n l m j true).setHanded ((HandedOn.removals n (l.placed.drop j).length).vehicle n) := by
  have htable : (s.levelAt n l j).appended (l.cutTo s.conf.gap j l)
      (unidentified s.conf.unidentifiedWeight (m - (l.used - extentSum s.conf.gap (l.placed.drop j)))
        (l.used - extentSum s.conf.gap (l.placed.drop j))) = (s.levelled n l m j true).table := by
    unfold State.appended
    rw [show (l.cutTo s.conf.gap j l).number = n from hn]
    refine (updateLane_updateLane (f := Lane.cutTo s.conf.gap l j) (fun _ => rfl) s.table).trans ?_
    unfold LaneTable.updateLane State.levelled
    dsimp only
    refine congrArg (fun ls => ({ s.table with lanes := ls } : LaneTable)) (List.map_congr_left fun k _ => ?_)
    by_cases hk : k.number = n
    · rw [if_pos hk, if_pos hk]
      have hused : l.used - extentSum s.conf.gap (l.placed.drop j) +
          (m - (l.used - extentSum s.conf.gap (l.placed.drop j)) + s.conf.gap) = m + s.conf.gap := by omega
      unfold Lane.append Lane.cutTo Record.extent unidentified
      dsimp only
      rw [show (s.levelAt n l j).conf.gap = s.conf.gap from rfl, hused]
      rfl
    · rw [if_neg hk, if_neg hk]
  have hconditions : raiseCondition s.now .unidentifiedVehicle (some n) (s.levelAt n l j).conditions =
      (s.levelled n l m j true).conditions := by
    unfold State.levelAt State.cutTo State.levelled
    dsimp only
    rw [List.foldl_append, foldl_map_const, hn]
    rfl
  rw [placeUnidentified_eq]
  unfold State.unexpected
  rw [show (l.cutTo s.conf.gap j l).number = n from hn]
  refine Eq.trans ?_ (congrArg (fun C => ({ s.levelled n l m j true with
    conditions := C, handed := (HandedOn.removals n (l.placed.drop j).length).vehicle n } : State))
    hconditions)
  refine Eq.trans ?_ (congrArg (fun K => ({ s.levelled n l m j true with
    table := K
    conditions := raiseCondition s.now .unidentifiedVehicle (some n) (s.levelAt n l j).conditions
    handed := (HandedOn.removals n (l.placed.drop j).length).vehicle n } : State))
    htable)
  cases s
  rfl

/-- The lanes that some removals hand on (R18). -/
theorem replicate_dedup_eq (n k : Nat) :
    (List.replicate k n).dedup = (if k = 0 then [] else [n]).dedup := by
  cases k with
  | zero => rfl
  | succ k => rw [List.replicate_dedup k.succ_ne_zero, if_neg k.succ_ne_zero]; rfl

theorem replicate_snoc_dedup (n k : Nat) : (List.replicate k n ++ [n]).dedup = [n].dedup := by
  rw [← List.replicate_succ', List.replicate_dedup k.succ_ne_zero]
  rfl

/-- A lane that has replied (R173). -/
theorem reply_eq (n : Nat) (s : State) :
    s.reply n = { s with sensor := { s.sensor with
      replied := if n ∈ s.sensor.replied then s.sensor.replied else s.sensor.replied ++ [n] } } := by
  unfold State.reply
  by_cases hk : n ∈ s.sensor.replied
  · rw [if_pos hk, if_pos (List.contains_iff_mem.2 hk)]
    rfl
  · rw [if_neg hk, if_neg fun h => hk (List.contains_iff_mem.1 h)]
    rfl

/-- A bay whose lane has replied, what it hands on standing. -/
theorem levelled_reply (added : Bool) (H : HandedOn) :
    ((s.levelled n l m j added).setHanded H).reply n =
      ({ s.levelled n l m j added with sensor := { s.sensor with
        replied := if n ∈ s.sensor.replied then s.sensor.replied else s.sensor.replied ++ [n] } } :
          State).setHanded H := reply_eq n _

/-- A LEVEL in a survey acts on the lane it names (R173, R174). -/
theorem exec_level {lane : Byte} {m : Word16} {check : RxCheck} (hb : s.IsBay)
    (hk : check = { word := checkWord ([5, lane] ++ bytes2 m) }) (hs : s.sensor.surveyDue ≠ none)
    (hn : s.node ≠ .withdrawn) (hl : s.table.lane? lane.toNat = some l) :
    ∃ f, exec (.level lane m check) s = .next (s.event f) ∧
      f s.unmoved =
        let r := s.unmoved.reconcile l (m.toNat : Int)
        if r.2 then r.1.reply lane.toNat else r.1.inconsistency lane.toNat := by
  refine ⟨_, rfl, (sensorMessage_taken (s := s.unmoved) hb (messageAgrees_of hk)).trans
    ((if_pos ⟨hs, hn⟩).trans ?_)⟩
  unfold State.takeLevel
  rw [show s.unmoved.table.lane? lane.toNat = some l from hl]

/-- What a LEVEL that can measure the lane makes of the bay, before its end (R174). -/
theorem reconcile_eq (hl : s.table.lane? n = some l) (hd : s.table.Distinct)
    (hlen : m ≤ l.conf.length) (hj : j ≤ l.placed.length)
    (hgoes : ∀ i, i ≤ l.placed.length → j < i → l.excess s.conf.gap m i < -s.conf.tolerance)
    (hstops : -s.conf.tolerance ≤ l.excess s.conf.gap m j) :
    s.unmoved.reconcile l m =
      if s.wantsRecord l m j = true then
        if j < 24 then
          ((s.levelled n l m j true).setHanded
            ((HandedOn.removals n (l.placed.drop j).length).vehicle n), true)
        else ((s.levelled n l m j false).setHanded (HandedOn.removals n (l.placed.drop j).length), false)
      else ((s.levelled n l m j false).setHanded (HandedOn.removals n (l.placed.drop j).length), true) := by
  have hnum := (LaneTable.lane?_some hl).2
  unfold State.reconcile
  rw [if_neg (not_lt.2 hlen), hnum, surveyRemovals_eq hl hd hj hgoes hstops,
    surveyAppend_eq hl hj, placeUnidentified_levelled hnum, levelAt_levelled hnum]

/-- The event of a LEVEL that can measure the lane (R18, R172 to R174). -/
theorem exec_level_ends {lane : Byte} {m : Word16} {check : RxCheck} (hb : s.IsBay) (hra : s.RoleApart)
    (hd : s.table.Distinct) (hk : check = { word := checkWord ([5, lane] ++ bytes2 m) })
    (hs : s.sensor.surveyDue ≠ none) (hn : s.node ≠ .withdrawn) (hl : s.table.lane? lane.toNat = some l)
    (hlen : (m.toNat : Int) ≤ l.conf.length) (hj : j ≤ l.placed.length)
    (hgoes : ∀ i, i ≤ l.placed.length → j < i → l.excess s.conf.gap m.toNat i < -s.conf.tolerance)
    (hstops : -s.conf.tolerance ≤ l.excess s.conf.gap m.toNat j) :
    let wanting := s.wantsRecord l m.toNat j
    let added := wanting && decide (j < 24)
    let stuck := wanting && !added
    let changed := !(l.placed.drop j).isEmpty || added
    let v := s.levelled lane.toNat l m.toNat j added
    ∃ t, exec (.level lane m check) s = .next t ∧
      EventEnds changed (changed || (stuck && decide (s.node ≠ .listen)))
        (if changed = true then [lane.toNat] else []) s
        (if stuck = true then v.foundInconsistent lane.toNat
          else { v with sensor := { s.sensor with
            replied := if lane.toNat ∈ s.sensor.replied then s.sensor.replied
              else s.sensor.replied ++ [lane.toNat] } }) t := by
  obtain ⟨f, hf, hact⟩ := exec_level hb hk hs hn hl
  rw [reconcile_eq hl hd hlen hj hgoes hstops] at hact
  have hidle := hra.idle hb
  have hpos : decide (0 < (l.placed.drop j).length) = !(l.placed.drop j).isEmpty := by
    cases l.placed.drop j <;> rfl
  have hlanes : (List.replicate (l.placed.drop j).length lane.toNat).dedup =
      (if (!(l.placed.drop j).isEmpty) = true then [lane.toNat] else []).dedup := by
    rw [replicate_dedup_eq]
    cases l.placed.drop j <;> rfl
  cases hw : s.wantsRecord l m.toNat j with
  | false =>
    rw [hw, if_neg Bool.false_ne_true] at hact
    have hto : f s.unmoved = State.reply lane.toNat ((s.levelled lane.toNat l m.toNat j false).setHanded
      (HandedOn.removals lane.toNat (l.placed.drop j).length)) := hact
    obtain ⟨t, ht, he⟩ := event_handed (s := s) (v := { s.levelled lane.toNat l m.toNat j false with
        sensor := { s.sensor with
          replied := if lane.toNat ∈ s.sensor.replied then s.sensor.replied
            else s.sensor.replied ++ [lane.toNat] } }) hb rfl rfl rfl rfl hlanes
      (hto.trans (levelled_reply _ _))
    refine ⟨t, hf.trans (congrArg Host.Outcome.next ht), ?_⟩
    simp only [Bool.false_and, Bool.or_false, Bool.false_eq_true, if_false, ← hpos]
    rw [← hpos] at he
    exact he
  | true =>
    rw [hw, if_pos rfl] at hact
    by_cases h24 : j < 24
    · rw [if_pos h24] at hact
      have hto : f s.unmoved = State.reply lane.toNat ((s.levelled lane.toNat l m.toNat j true).setHanded
        ((HandedOn.removals lane.toNat (l.placed.drop j).length).vehicle lane.toNat)) := hact
      obtain ⟨t, ht, he⟩ := event_handed (s := s) (v := { s.levelled lane.toNat l m.toNat j true with
          sensor := { s.sensor with
            replied := if lane.toNat ∈ s.sensor.replied then s.sensor.replied
              else s.sensor.replied ++ [lane.toNat] } }) hb rfl rfl rfl rfl (replicate_snoc_dedup _ _)
        (hto.trans (levelled_reply _ _))
      refine ⟨t, hf.trans (congrArg Host.Outcome.next ht), ?_⟩
      simp only [decide_eq_true h24, Bool.and_self, Bool.not_true, Bool.and_false, Bool.or_true, Bool.true_or,
        Bool.false_eq_true, if_false, if_true]
      exact he
    · rw [if_neg h24] at hact
      have hto : f s.unmoved = State.inconsistency lane.toNat
        ((s.levelled lane.toNat l m.toNat j false).setHanded
          (HandedOn.removals lane.toNat (l.placed.drop j).length)) := hact
      obtain ⟨t, ht, he⟩ := event_found (s := s) (v := s.levelled lane.toNat l m.toNat j false) hb hidle hn rfl
        rfl rfl hlanes hto
      refine ⟨t, hf.trans (congrArg Host.Outcome.next ht), ?_⟩
      simp only [decide_eq_false h24, Bool.and_false, Bool.not_false, Bool.and_self, Bool.or_false,
        Bool.true_and, if_true, ← hpos]
      rw [← hpos] at he
      exact he

/-- Settles O50. -/
theorem levelReconciles : Obligations.LevelReconciles := by
  intro s lane m check hb hra hd hk
  refine ⟨fun hnot => ?_, fun hs hn l hl => ⟨fun hlong => ?_, fun hlen j hj hgoes hstops => ?_⟩⟩
  · refine congrArg Host.Outcome.next (event_unmoved
      ((sensorMessage_taken (s := s.unmoved) hb (messageAgrees_of hk)).trans ?_))
    unfold State.inSurvey
    split
    · rename_i hsurvey
      have hnone : s.unmoved.table.lane? lane.toNat = none := by
        rcases hnot with h | h | h
        · exact absurd h hsurvey.1
        · exact absurd h hsurvey.2
        · exact h
      unfold State.takeLevel
      rw [hnone]
    · rfl
  · obtain ⟨f, hf, hact⟩ := exec_level hb hk hs hn hl
    unfold State.reconcile at hact
    rw [if_pos hlong] at hact
    obtain ⟨t, ht, he⟩ := event_inconsistent hb hra hn hact
    exact ⟨t, hf.trans (congrArg Host.Outcome.next ht), he⟩
  · exact exec_level_ends hb hra hd hk hs hn hl hlen hj hgoes hstops

end Sys2Proof.Machine
end

section
/-! PROOFS. The start of an attempt on the deck line (O52). -/

namespace Sys2Proof.Machine

open Sys2Proof

variable {s : State} {rivals : List Rival}

/-! ## OFFERs without a reservation (R154) -/

/-- The frame is an OFFER of a round that has no reservation (R154). -/
def QFrame.dead (held : List Reservation) (f : QFrame) : Bool :=
  match f.payload with
  | .offer p => !(held.any fun r => decide (r.round = p.round))
  | _ => false

theorem contains_round (held : List Reservation) (r : RoundId) :
    (held.map (·.round)).contains r = held.any fun x => decide (x.round = r) := by
  rw [List.contains_eq_any_beq, List.any_map]
  exact congrArg held.any (funext fun x => by
    rw [Function.comp_apply, Bool.beq_comm]
    exact Bool.beq_eq_decide_eq _ _)

theorem dropDeadOffers_eq (held : List Reservation) (q : List QFrame) :
    dropDeadOffers (held.map (·.round)) q = q.dropWhile (QFrame.dead held) := by
  induction q with
  | nil => rfl
  | cons f q ih =>
    unfold dropDeadOffers
    rw [List.dropWhile_cons]
    cases hp : f.payload with
    | offer p =>
      have hdead : f.dead held = !(held.any fun x => decide (x.round = p.round)) := by
        unfold QFrame.dead; rw [hp]
      rw [hdead, ← contains_round]
      dsimp only
      cases (held.map (·.round)).contains p.round with
      | true => rfl
      | false => exact ih
    | _ =>
      have hlive : f.dead held = false := by unfold QFrame.dead; rw [hp]
      rw [hlive]
      rfl

/-! ## The node number of a frame's source (R150) -/

theorem source_toNat (c : Conf) :
    c.source.toNat =
      match c.role with
      | .bay => c.nodeNumber % 256
      | .ramp => (60 + c.rampId) % 256 := by
  unfold Conf.source
  cases c.role <;> rfl

/-! ## The rivals (R155) -/

theorem beats_iff {r : Rival} {cls source : Nat} :
    Rival.beats cls source r = true ↔ r.cls < cls ∨ (r.cls = cls ∧ r.source < source) := by
  simp [Rival.beats]

theorem beats_eq_false_iff {r : Rival} {cls source : Nat} :
    Rival.beats cls source r = false ↔ cls < r.cls ∨ (r.cls = cls ∧ source ≤ r.source) := by
  rw [← Bool.not_eq_true, beats_iff]
  omega

/-! ## TRANSMIT_START -/

/-- An event of a configured node that hands on nothing to its end. -/
theorem exec_transmitStart {u : State} (hc : s.Configured)
    (h : s.unmoved.startAttempt rivals = u.setHanded HandedOn.clear) :
    exec (.transmitStart rivals) s = .next (u.setHanded HandedOn.clear) :=
  congrArg Host.Outcome.next (event_only
    (f := fun s => if s.Configured then s.startAttempt rivals else s)
    ((if_pos (show s.unmoved.Configured from hc)).trans h))

/-- What an attempt starts from, the line being free (R154, R155). -/
theorem startAttempt_free (rivals : List Rival) (h : s.dli.onLine = none) :
    s.startAttempt rivals =
      match s.dli.queue.dropWhile (QFrame.dead s.table.reservations) with
      | [] => s.setDli { s.dli with queue := [] }
      | f :: q =>
        if rivals.any (Rival.beats f.cls s.conf.source.toNat) then
          s.setDli { s.dli with queue := f :: q }
        else
          (s.setDli { s.dli with
            queue := f :: q
            onLine := some
              { age := f.age, spoiled := rivals.any (Rival.ties f.cls s.conf.source.toNat) } }).carry
            { source := s.conf.source, callNumber := f.callNumber, payload := f.payload } := by
  unfold State.startAttempt
  rw [h]
  dsimp only
  rw [dropDeadOffers_eq]
  cases s.dli.queue.dropWhile (QFrame.dead s.table.reservations) <;> rfl

/-- Settles O52. -/
theorem transmitStarts : Obligations.TransmitStarts := by
  intro s rivals hc
  refine ⟨fun hbusy => ?_, fun hfree => ?_⟩
  · refine exec_transmitStart (u := s) hc ?_
    obtain ⟨o, ho⟩ := Option.ne_none_iff_exists'.1 hbusy
    unfold State.startAttempt
    rw [show s.unmoved.dli.onLine = some o from ho]
    rfl
  · have hstart := startAttempt_free (s := s.unmoved) rivals hfree
    change s.unmoved.startAttempt rivals =
      match s.dli.queue.dropWhile (QFrame.dead s.table.reservations) with
      | [] => _
      | f :: q => _ at hstart
    intro dead q source
    have hq : q = s.dli.queue.dropWhile (QFrame.dead s.table.reservations) := rfl
    have hsource : s.conf.source.toNat = source := source_toNat s.conf
    rw [← hq] at hstart
    clear_value q source
    cases q with
    | nil => exact exec_transmitStart (u := { s with dli := { s.dli with queue := [] } }) hc hstart
    | cons f rest =>
      refine ⟨fun ⟨r, hr, hbeats⟩ => ?_, fun hall => ?_⟩
      · have hany : rivals.any (Rival.beats f.cls s.conf.source.toNat) = true :=
          List.any_eq_true.2 ⟨r, hr, beats_iff.2 (hsource ▸ hbeats)⟩
        exact exec_transmitStart (u := { s with dli := { s.dli with queue := f :: rest } }) hc
          (hstart.trans (if_pos hany))
      · have hnone : ¬ rivals.any (Rival.beats f.cls s.conf.source.toNat) = true := by
          rw [hsource, List.any_eq_true]
          rintro ⟨r, hr, hbeats⟩
          exact Bool.noConfusion (hbeats.symm.trans (beats_eq_false_iff.2 (hall r hr)))
        have hties : (rivals.any fun r => decide (r.cls = f.payload.cls ∧ r.source = source)) =
            rivals.any (Rival.ties f.cls s.conf.source.toNat) := by
          rw [hsource]
          exact congrArg rivals.any (funext fun r => Bool.decide_and _ _)
        have hbyte : BitVec.ofNat 8 source = s.conf.source := by
          rw [← hsource]
          exact BitVec.eq_of_toNat_eq (by simp)
        rw [hties, hbyte]
        exact exec_transmitStart (u := { s with
          dli := { s.dli with
            queue := f :: rest
            onLine := some
              { age := f.age, spoiled := rivals.any (Rival.ties f.cls s.conf.source.toNat) } }
          out := { s.out with
            deck := s.out.deck ++
              [{ source := s.conf.source, callNumber := f.callNumber, payload := f.payload }] } }) hc
          (hstart.trans (if_neg hnone))

end Sys2Proof.Machine
end

section
/-! PROOFS. The end of an attempt that is acknowledged (O53). -/

namespace Sys2Proof.Machine

open Sys2Proof

variable {s t : State} {f : QFrame} {o : OnLine}

/-! ## The window timer of a CALL (R83) -/

/-- The rounds of a ramp where the end of a frame starts the window timer of its open round (R83). -/
def RoundController.windowed (now : Nat) (f : QFrame) (R : RoundController) : RoundController :=
  { R with openRound := R.openRound.map fun r =>
      if f.payload.isCallOf r.round = true ∧ f.leaving = false ∧ r.windowDue = none then
        { r with windowDue := some (now + r.window) }
      else r }

/-- A frame that starts no window timer leaves the rounds. -/
theorem windowed_of_not {now : Nat} {R : RoundController}
    (h : ∀ r, ¬ (f.payload.isCallOf r = true ∧ f.leaving = false)) : R.windowed now f = R := by
  unfold RoundController.windowed
  have hid : R.openRound.map (fun r =>
      if f.payload.isCallOf r.round = true ∧ f.leaving = false ∧ r.windowDue = none then
        { r with windowDue := some (now + r.window) }
      else r) = R.openRound := by
    cases R.openRound with
    | none => rfl
    | some r => exact congrArg some (if_neg fun ⟨hcall, hleaving, _⟩ => h r.round ⟨hcall, hleaving⟩)
  rw [hid]

theorem startWindow_eq {p : CallPayload} (hp : f.payload = .call p) (hl : f.leaving = false)
    (s : State) : s.startWindow p.round = { s with rounds := s.rounds.windowed s.now f } := by
  have hcall (r : RoundId) : f.payload.isCallOf r = decide (p.round = r) := by rw [hp]; rfl
  unfold State.startWindow RoundController.windowed
  cases ho : s.rounds.openRound with
  | none =>
    dsimp only
    rw [Option.map_none, ← ho]
  | some o =>
    rw [Option.map_some]
    dsimp only
    by_cases hw : o.round = p.round ∧ o.windowDue = none
    · rw [if_pos hw, if_pos ⟨(hcall _).trans (decide_eq_true hw.1.symm), hl, hw.2⟩]
      rfl
    · rw [if_neg hw, if_neg fun h => hw ⟨(of_decide_eq_true ((hcall _).symm.trans h.1)).symm, h.2.2⟩, ← ho]

/-- The end of a frame starts the window timer of its open round where it is its CALL. -/
theorem windowIfCall_eq (f : QFrame) (s : State) :
    s.windowIfCall f = { s with rounds := s.rounds.windowed s.now f } := by
  have hnot (h : ∀ r, ¬ (f.payload.isCallOf r = true ∧ f.leaving = false)) :
      s = { s with rounds := s.rounds.windowed s.now f } := by
    rw [windowed_of_not h]
  unfold State.windowIfCall
  cases hp : f.payload with
  | call p =>
    cases hl : f.leaving with
    | false => exact startWindow_eq hp hl s
    | true => exact hnot fun r h => Bool.noConfusion (hl.symm.trans h.2)
  | _ => exact hnot fun r h => by rw [hp] at h; exact absurd h.1 nofun

/-! ## The attempt on the line -/

/-- The end of an attempt acts on the frame that it carried. -/
theorem endAttempt_carried (acknowledged : Bool) (ho : s.dli.onLine = some o)
    (hf : s.dli.queue.find? (fun f => decide (f.age = o.age)) = some f) :
    s.endAttempt acknowledged =
      if (acknowledged && !o.spoiled) = true then s.attemptAcknowledged f else s.attemptFailed f := by
  unfold State.endAttempt
  rw [ho]
  dsimp only
  rw [hf]

/-- The bay or ramp once the frame of an acknowledged attempt has left (R83, R157). -/
def State.acknowledged (f : QFrame) (s : State) : State :=
  { s with
    dli := { s.dli with
      onLine := none, failures := 0, queue := s.dli.queue.filter fun g => decide (g.age ≠ f.age) }
    rounds := s.rounds.windowed s.now f }

/-- The line back in NORMAL, with LINE SILENT cleared (R160). -/
def State.lineReturned (s : State) : State :=
  { s with
    dli := { s.dli with line := .normal, failures := 0, probeTime := none }
    conditions := s.conditions.eraseP fun c =>
      decide (c.code = .lineSilent) && decide (c.lane = none) }

theorem returnToNormal_eq (s : State) :
    s.returnToNormal =
      match s.conf.role with
      | .bay => s.lineReturned.setHanded { s.handed with tally := true }
      | .ramp => s.lineReturned.setHanded { s.handed with look := true } := by
  cases s
  rfl

theorem attemptAcknowledged_normal (h : s.dli.line = .normal) :
    s.attemptAcknowledged f = s.acknowledged f := by
  rw [attemptAcknowledged_eq, h]
  dsimp only
  rw [windowIfCall_eq]
  rfl

theorem attemptAcknowledged_silent (h : s.dli.line = .silent) :
    s.attemptAcknowledged f =
      match s.conf.role with
      | .bay => (s.acknowledged f).lineReturned.setHanded { s.handed with tally := true }
      | .ramp => (s.acknowledged f).lineReturned.setHanded { s.handed with look := true } := by
  rw [attemptAcknowledged_eq, h]
  dsimp only
  rw [windowIfCall_eq]
  exact returnToNormal_eq (s.acknowledged f)

/-- Settles O53. -/
theorem attemptAcknowledged : Obligations.AttemptAcknowledged := by
  intro s hc hra o ho hspoiled f hf
  have hack : s.unmoved.endAttempt true = s.unmoved.attemptAcknowledged f := by
    rw [endAttempt_carried (s := s.unmoved) true ho hf, hspoiled]
    rfl
  have hact : (if s.unmoved.Configured then s.unmoved.endAttempt true else s.unmoved) =
      s.unmoved.attemptAcknowledged f := (if_pos (show s.unmoved.Configured from hc)).trans hack
  refine ⟨fun hn => ?_, fun hs hr => ?_, fun hs hr => ?_⟩
  · exact congrArg Host.Outcome.next (event_only (u := s.acknowledged f)
      (f := fun s => if s.Configured then s.endAttempt true else s)
      (hact.trans (attemptAcknowledged_normal (s := s.unmoved) hn)))
  · have hback := attemptAcknowledged_silent (s := s.unmoved) (f := f) hs
    rw [show s.unmoved.conf.role = .ramp from hr] at hback
    obtain ⟨t, ht, h⟩ := event_looked (s := s) (u := (s.acknowledged f).lineReturned)
      (f := fun s => if s.Configured then s.endAttempt true else s) (hact.trans hback) ⟨hc, hr⟩
    exact ⟨t, congrArg Host.Outcome.next ht, h⟩
  · have hback := attemptAcknowledged_silent (s := s.unmoved) (f := f) hs
    rw [show s.unmoved.conf.role = .bay from hr] at hback
    obtain ⟨t, ht, he⟩ := event_bay (s := s)
      (w := (s.acknowledged f).lineReturned.setHanded { HandedOn.clear with tally := true })
      (f := fun s => if s.Configured then s.endAttempt true else s) (hact.trans hback) ⟨hc, hr⟩ (.inl rfl)
    have htally := (if_pos rfl).mp he.tally
    exact ⟨t, congrArg Host.Outcome.next ht, htally.1, htally.2, he.copies,
      (congrArg (fun v : State => v.setHanded s.handed) (he.frame_still rfl) :)⟩

end Sys2Proof.Machine
end

section
/-! PROOFS. The end of an attempt that fails, and the drop of its frame (O54, O55). -/

namespace Sys2Proof.Machine

open Sys2Proof

variable {s t u v w : State} {f : QFrame} {o : OnLine} {d : DispatchedEntry}

/-! ## The drop of one frame, reported -/

/-- An event whose drops are settled with nothing more handed on is at its end. -/
theorem event_reported {e : State → State} (hw : e s.unmoved = w)
    (h : w.settleDrops = u.setHanded HandedOn.clear) : s.event e = u.setHanded HandedOn.clear := by
  have hclear : (u.setHanded HandedOn.clear).finish = u.setHanded HandedOn.clear :=
    State.event_of_clear (f := fun _ => u.setHanded HandedOn.clear) (s := u) rfl
  refine (congrArg State.finish hw).trans (Eq.trans ?_ hclear)
  unfold State.finish
  rw [h]
  rfl

/-- The report of a frame whose drop cancels no dispatched entry (R83, R157). -/
theorem reported_windowed (hl : f.leaving = false)
    (ha : ∀ p, f.payload = .award p →
      u.rounds.dispatched.find? (DispatchedEntry.isFor p.round p.bay) = none) :
    f.payload.dropReport.foldl State.settleDrop u = { u with rounds := u.rounds.windowed u.now f } := by
  cases hp : f.payload with
  | call p => exact startWindow_eq hp hl u
  | award p =>
    rw [windowed_of_not fun r h =>
      absurd (hp ▸ h.1 : (Payload.award p).isCallOf r = true) nofun]
    show u.cancelDispatched p.round p.bay .unsent = u
    unfold State.cancelDispatched
    rw [ha p hp]
  | _ =>
    rw [windowed_of_not fun r h => by rw [hp] at h; exact absurd h.1 nofun]
    rfl

theorem windowed_of_kept {now : Nat} {R : RoundController} (hl : f.leaving = false) :
    R.windowed now f =
      { R with
        openRound := R.openRound.map fun r =>
          if f.payload.isCallOf r.round = true ∧ r.windowDue = none then
            { r with windowDue := some (now + r.window) }
          else r } := by
  unfold RoundController.windowed
  simp only [hl, true_and]

/-! ## The failed attempt -/

theorem attemptFailed_leaving (h : f.leaving = true) :
    s.attemptFailed f = s.setDli (s.dli.without f.age) := if_pos h

theorem attemptFailed_again (h : f.leaving = false) (ha : f.attempts + 1 < Config.maxAttempts) :
    s.attemptFailed f =
      s.setDli { s.dli with
        onLine := none
        queue := s.dli.queue.map fun g =>
          if g.age = f.age then { g with attempts := g.attempts + 1 } else g } :=
  (if_neg (by rw [h]; exact Bool.false_ne_true)).trans (if_pos ha)

theorem attemptFailed_last (h : f.leaving = false) (ha : Config.maxAttempts ≤ f.attempts + 1) :
    s.attemptFailed f = s.dropFrame f :=
  (if_neg (by rw [h]; exact Bool.false_ne_true)).trans (if_neg (not_lt.2 ha))

/-- The node without a frame dropped below the 16th failure (R157, R158). -/
def State.dropped (f : QFrame) (s : State) : State :=
  { s with dli := { s.dli with
    onLine := none
    queue := s.dli.queue.filter fun g => decide (g.age ≠ f.age)
    failures := if s.dli.line = .silent then s.dli.failures else s.dli.failures + 1 } }

theorem normal_of_not_silent {l : LineState} (h : ¬ l = .silent) : l = .normal := by
  cases l with
  | silent => exact absurd rfl h
  | normal => rfl

theorem dropFrame_silent (h : s.dli.line = .silent) :
    s.dropFrame f = (s.setDli (s.dli.without f.age)).handDrops f.payload.dropReport := by
  unfold State.dropFrame
  dsimp only
  rw [show (s.setDli (s.dli.without f.age)).dli.line = .silent from h]

theorem dropFrame_normal (h : s.dli.line = .normal) :
    s.dropFrame f =
      (if 16 ≤ s.dli.failures + 1 then
        (s.setDli { s.dli.without f.age with failures := s.dli.failures + 1 }).becomeSilent
      else s.setDli { s.dli.without f.age with failures := s.dli.failures + 1 }).handDrops
        f.payload.dropReport := by
  unfold State.dropFrame
  dsimp only
  split
  · rename_i hs
    exact LineState.noConfusion (h.symm.trans hs)
  · rfl

/-- A drop below the 16th failure reports its CALL or AWARD (R157, R158). -/
theorem dropFrame_eq (h : s.dli.line = .silent ∨ s.dli.failures + 1 < 16) :
    s.dropFrame f =
      (s.dropped f).setHanded { s.handed with drops := s.handed.drops ++ f.payload.dropReport } := by
  by_cases hl : s.dli.line = .silent
  · have hfails : (if s.dli.line = .silent then s.dli.failures else s.dli.failures + 1) = s.dli.failures :=
      if_pos hl
    rw [dropFrame_silent hl]
    unfold State.dropped
    rw [hfails]
    cases s
    rfl
  · have hn := normal_of_not_silent hl
    have hfails : (if s.dli.line = .silent then s.dli.failures else s.dli.failures + 1) =
        s.dli.failures + 1 := if_neg hl
    rw [dropFrame_normal hn, if_neg (not_le.2 (h.resolve_left hl))]
    unfold State.dropped
    rw [hfails]
    cases s
    rfl

/-- The end of an attempt that is not acknowledged is that of a failed one. -/
theorem endAttempt_failed {acknowledged : Bool} (hc : s.Configured) (ho : s.dli.onLine = some o)
    (hf : s.dli.queue.find? (fun f => decide (f.age = o.age)) = some f)
    (hfails : acknowledged = false ∨ o.spoiled = true) :
    (if s.unmoved.Configured then s.unmoved.endAttempt acknowledged else s.unmoved) =
      s.unmoved.attemptFailed f := by
  refine (if_pos (show s.unmoved.Configured from hc)).trans
    ((endAttempt_carried (s := s.unmoved) acknowledged ho hf).trans (if_neg ?_))
  rcases hfails with h | h <;> rw [h] <;> simp

/-- Settles O54. -/
theorem attemptFails : Obligations.AttemptFails := by
  intro s acknowledged hc hra o ho hfails f hf
  have hact := endAttempt_failed hc ho hf hfails
  refine ⟨fun hl => ?_, fun hl ha => ?_, fun hl ha hfew => ?_⟩
  · exact congrArg Host.Outcome.next (event_only
      (f := fun s => if s.Configured then s.endAttempt acknowledged else s)
      (u := { s with dli := s.dli.without f.age }) (hact.trans (attemptFailed_leaving hl)))
  · exact congrArg Host.Outcome.next (event_only
      (f := fun s => if s.Configured then s.endAttempt acknowledged else s)
      (u := { s with dli := { s.dli with
        onLine := none
        queue := s.dli.queue.map fun g =>
          if g.age = f.age then { g with attempts := g.attempts + 1 } else g } })
      (hact.trans (attemptFailed_again hl ha)))
  · have hdrop := hact.trans ((attemptFailed_last hl ha).trans
      (dropFrame_eq (s := s.unmoved) (f := f) hfew))
    refine ⟨fun hnone => ?_, fun x hx => ?_⟩
    · have ha : ∀ p, f.payload = .award p →
          s.rounds.dispatched.find? (DispatchedEntry.isFor p.round p.bay) = none := by
        intro p hp
        rw [hp] at hnone
        exact Option.map_eq_none_iff.1 hnone
      have hset := reported_windowed (u := (s.dropped f).setHanded HandedOn.clear) hl ha
      refine congrArg Host.Outcome.next ((event_reported
        (e := fun s => if s.Configured then s.endAttempt acknowledged else s)
        (u := { s.dropped f with rounds := s.rounds.windowed s.now f }) hdrop hset).trans ?_)
      rw [windowed_of_kept hl]
      rfl
    · obtain ⟨p, hp, d, hd, rfl⟩ : ∃ p, f.payload = .award p ∧ ∃ d,
          s.rounds.dispatched.find? (DispatchedEntry.isFor p.round p.bay) = some d ∧ (p, d) = x := by
        cases hp : f.payload with
        | award p =>
          rw [hp] at hx
          obtain ⟨d, hd, he⟩ := Option.map_eq_some_iff.1 hx
          exact ⟨p, rfl, d, hd, he⟩
        | _ => rw [hp] at hx; exact absurd hx nofun
      have hr : s.IsRamp := by
        refine ⟨hc, ?_⟩
        cases hrole : s.conf.role with
        | ramp => rfl
        | bay => rw [(hra.1 hrole).2.2.1] at hd; exact absurd hd nofun
      have hset : ((s.unmoved.dropped f).setHanded { HandedOn.clear with
          drops := f.payload.dropReport }).settleDrops =
            ((s.dropped f).setHanded HandedOn.clear).cancelDispatched p.round p.bay .unsent := by
        rw [hp]
        rfl
      refine ⟨fun hroom => ?_, fun hfull => ?_⟩
      · have hback := hset.trans (cancelDispatched_returns (u := s.dropped f) hd hroom)
        have hend := finish_settled (look := true)
          (v := (s.dropped f).returnedToHead (DispatchedEntry.isFor p.round p.bay) d (.cancelled .unsent))
          hback hr rfl rfl rfl
        exact ⟨_, congrArg Host.Outcome.next (congrArg State.finish hdrop), hend⟩
      · exact congrArg Host.Outcome.next (event_reported
          (e := fun s => if s.Configured then s.endAttempt acknowledged else s)
          (u := (s.dropped f).shutOutCancelled (DispatchedEntry.isFor p.round p.bay) d (.cancelled .unsent))
          hdrop (hset.trans (cancelDispatched_shutOut (u := s.dropped f) hd (not_lt.2 hfull))))

/-! ## The 16th drop in a row (R158, R159) -/

/-- The node as its line state falls SILENT (R159). -/
def State.fallen (s : State) : State :=
  { s with
    dli := { s.dli with
      line := .silent, queue := [], failures := 16, onLine := none
      probeTime := some (s.now + 30000) }
    conditions := raiseCondition s.now .lineSilent none s.conditions }

/-- What the fall to SILENT with the drop of a frame reports (R157, R159). -/
def Dli.fallDrops (f : QFrame) (d : Dli) : List Drop :=
  ((d.queue.filter fun g => decide (g.age ≠ f.age)) ++ [f]).flatMap fun g => g.payload.dropReport

theorem fallDrops_eq (f : QFrame) (d : Dli) :
    (d.without f.age).drops ++ f.payload.dropReport = d.fallDrops f := by
  unfold Dli.drops Dli.fallDrops
  rw [List.flatMap_append, List.flatMap_singleton]
  rfl

theorem dropFrame_fall (hn : s.dli.line = .normal) (hf : s.dli.failures = 15) :
    s.dropFrame f =
      (s.setDli { s.dli.without f.age with failures := 16 }).becomeSilent.handDrops
        f.payload.dropReport := by
  rw [dropFrame_normal hn, hf, if_pos le_rfl]

theorem dropFrame_fall_ramp (hr : s.conf.role = .ramp) (hn : s.dli.line = .normal)
    (hf : s.dli.failures = 15) :
    s.dropFrame f =
      s.fallen.setHanded { s.handed with drops := s.handed.drops ++ s.dli.fallDrops f } := by
  rw [dropFrame_fall hn hf, becomeSilent_ramp_eq
    (s := s.setDli { s.dli.without f.age with failures := 16 }) hr, ← fallDrops_eq, ← List.append_assoc]
  cases s
  rfl

/-- A bay whose line state falls SILENT gives up what it has promised (R77, R159). -/
def State.fallenBay (s : State) : State :=
  { s.fallen with
    table := { s.table with reservations := [] }
    eval := { s.eval with inFlight := none, callQueue := [] } }

theorem dropFrame_fall_bay (hb : s.conf.role = .bay) (hn : s.dli.line = .normal)
    (hf : s.dli.failures = 15) :
    ∃ again, s.dropFrame f = s.fallenBay.setHanded
      { s.handed with restart := again, drops := s.handed.drops ++ s.dli.fallDrops f } := by
  refine ⟨s.handed.restart || !s.table.reservations.isEmpty, ?_⟩
  rw [dropFrame_fall hn hf, becomeSilent_bay_eq
    (s := s.setDli { s.dli.without f.age with failures := 16 }) hb, releaseAll_eq, ← fallDrops_eq,
    ← List.append_assoc]
  cases s
  rfl

/-- No round opens while the line is SILENT (R82): the event of a ramp ends with its drops reported. -/
theorem event_silent {e : State → State} {ds : List Drop} (hr : u.IsRamp)
    (hs : u.dli.line = .silent) (hw : e s.unmoved = u.setHanded { HandedOn.clear with drops := ds }) :
    s.event e = ds.foldl State.dropReported (u.setHanded HandedOn.clear) := by
  obtain ⟨t, look, ht, _, hend⟩ := event_ramp hw hr rfl rfl rfl
  rw [foldl_dropReported_setHanded] at hend ⊢
  obtain ⟨R, O, hfr⟩ := reported_frame ds u
  have hclosed : ¬ ((ds.foldl State.dropReported u).setHanded
      { HandedOn.clear with drops := ds }).MayOpen := by
    rintro ⟨_, _, _, hline, _⟩
    rw [hfr] at hline
    exact LineState.noConfusion (hline.symm.trans hs)
  have hquiet : Copied [] false false ((ds.foldl State.dropReported u).setHanded
        { HandedOn.clear with drops := ds }) t ∧
      { t with
        retained := (ds.foldl State.dropReported u).retained
        handed := { HandedOn.clear with drops := ds } } =
          (ds.foldl State.dropReported u).setHanded { HandedOn.clear with drops := ds } := by
    cases look with
    | true => exact hend.2 (.inl hclosed)
    | false => exact hend
  obtain ⟨hc, hframe⟩ := hquiet
  have hret : t.retained = (ds.foldl State.dropReported u).retained := hc.nothing
  have hhanded : t.handed = HandedOn.clear := by
    rw [← ht]
    rfl
  rw [ht]
  rw [← hret] at hframe
  have hclear : t.setHanded HandedOn.clear = t := by rw [← hhanded]; rfl
  exact hclear.symm.trans (congrArg (fun v : State => v.setHanded HandedOn.clear) hframe :)

/-- Settles O55. -/
theorem lineFallsSilent : Obligations.LineFallsSilent := by
  intro s hc hra hn hfails o ho f hf hl ha
  have hact := (endAttempt_failed (acknowledged := false) hc ho hf (.inl rfl)).trans
    (attemptFailed_last (s := s.unmoved) hl (by rw [ha]))
  refine ⟨fun hb => ?_, fun hr => ?_⟩
  · obtain ⟨again, hdrop⟩ := dropFrame_fall_bay (s := s.unmoved) (f := f) hb hn hfails
    obtain ⟨t, ht, he⟩ := event_bay (s := s)
      (w := s.fallenBay.setHanded
        { HandedOn.clear with restart := again, drops := s.dli.fallDrops f })
      (f := fun s => if s.Configured then s.endAttempt false else s) (hact.trans hdrop) ⟨hc, hb⟩
      (.inr (hra.idle ⟨hc, hb⟩))
    refine congrArg Host.Outcome.next (ht.trans ?_)
    have heval : t.eval = s.fallenBay.eval := he.eval_idle rfl
    have hcopies : t.retained = s.retained := he.copies.nothing
    have hframe := he.frame
    have huncaused : t.tally = s.fallenBay.tally ∧ t.dli = s.fallenBay.dli := he.uncaused rfl
    have hclear : t.setHanded HandedOn.clear = t := by rw [← he.clear]; rfl
    have hwhole : { t with
        eval := s.fallenBay.eval, tally := s.fallenBay.tally, dli := s.fallenBay.dli
        retained := s.retained, handed := HandedOn.clear } = t.setHanded HandedOn.clear := by
      rw [← heval, ← huncaused.1, ← huncaused.2, ← hcopies]
      rfl
    exact hclear.symm.trans (hwhole.symm.trans
      (congrArg (fun v : State => v.setHanded HandedOn.clear) hframe :))
  · exact congrArg Host.Outcome.next (event_silent (s := s) (u := s.fallen)
      (e := fun s => if s.Configured then s.endAttempt false else s) ⟨hc, hr⟩ rfl
      (hact.trans (dropFrame_fall_ramp (s := s.unmoved) (f := f) hr hn hfails)))

end Sys2Proof.Machine
end

section
/-! PROOFS. The TALLYs of a bay's own time, and probes (O56). -/

namespace Sys2Proof.Machine

open Sys2Proof

variable {s t : State} {f : State → State} {due : Nat}

/-- The bay at a time of its own, a TALLY counted as built (R140). -/
def State.timed (due : Nat) (s : State) : State :=
  { s with now := max s.now due, tally := s.tally.built (max s.now due) }

/-- An event that does no more than build a TALLY and hand it in ends with the node copy (R140, R179). -/
theorem event_timed {D : Dli} {ds : List Drop} (hb : s.IsBay) (hra : s.RoleApart)
    (hf : f s.unmoved = { s.timed due with
      dli := D, handed := { HandedOn.clear with node := true, drops := ds } }) :
    ∃ t, s.event f = t ∧ t.now = max s.now due ∧
      t.tally = { s.tally with
        seq := s.tally.seq + 1, lastBuild := some t.now, pendingChange := false } ∧
      t.dli = D ∧ t.tallyPayload t.tally.seq = (s.timed due).tallyPayload (s.tally.seq + 1) ∧
      Copied [] false true s t ∧
      { t with
        now := s.now, tally := s.tally, dli := s.dli, retained := s.retained
        handed := s.handed } = s := by
  obtain ⟨t, ht, he⟩ := event_bay hf hb (.inr (hra.idle hb))
  have hframe := he.frame_quiet rfl rfl
  have htally : t.tally = s.tally.built (max s.now due) := (congrArg State.tally hframe :)
  have hnow : t.now = max s.now due := (congrArg State.now hframe :)
  have hseq : t.tally.seq = s.tally.seq + 1 := congrArg TallyUnit.seq htally
  refine ⟨t, ht, hnow, by rw [hnow]; exact htally, (congrArg State.dli hframe :), ?_, he.copies, ?_⟩
  · rw [hseq]
    exact (congrArg (State.tallyPayload (s.tally.seq + 1)) hframe :)
  · exact (congrArg (fun v : State => { v with
      now := s.now, tally := s.tally, dli := s.dli, retained := s.retained, handed := s.handed }) hframe :)

/-- What is built in NORMAL is handed in in the line's order (R139, R151). -/
theorem buildTally_timed (hl : s.dli.line = .normal) :
    ∃ ds, (s.unmoved.reach due).buildTally = { s.timed due with
      dli := (s.dli.handInNormal s.tally.callNumber
        (.tally ((s.timed due).tallyPayload (s.tally.seq + 1)))).1
      handed := { HandedOn.clear with node := true, drops := ds } } :=
  buildTally_eq (s := s.unmoved.reach due) hl

/-! ## Probes (R160) -/

/-- The DLI with the next probe time set and a probe in the place of one still queued (R160). -/
def Dli.probed (due : Nat) (callNumber : Byte) (p : Payload) (d : Dli) : Dli :=
  { d with
    probeTime := some (due + 30000)
    nextAge := d.nextAge + 1
    queue := enqueue
      { payload := p, callNumber := callNumber, age := d.nextAge, attempts := 0, leaving := false }
      (d.queue.filterMap fun f =>
        if f.IsProbe then (if d.carries f = true then some { f with leaving := true } else none)
        else some f) }

theorem probe_bay (hb : s.conf.role = .bay) :
    s.unmoved.probe due = { s.timed due with
      dli := s.dli.probed due s.tally.callNumber
        (.tally ((s.timed due).tallyPayload (s.tally.seq + 1)))
      handed := { HandedOn.clear with node := true } } := by
  unfold State.probe
  dsimp only
  split
  · rfl
  · rename_i hr
    exact Role.noConfusion (hb.symm.trans hr)

theorem probe_ramp (hr : s.conf.role = .ramp) :
    s.unmoved.probe due = ({ s with
      now := max s.now due
      dli := s.dli.probed due s.tally.callNumber (.portcall s.tally.callNumber) } : State).unmoved := by
  unfold State.probe
  dsimp only
  split
  · rename_i hb
    exact Role.noConfusion (hb.symm.trans hr)
  · rfl

theorem takeProbeTime_none (h : (if s.dli.line = .silent then s.dli.probeTime else none) = none) :
    s.takeProbeTime = s := by
  unfold State.takeProbeTime
  split
  · rename_i hl hp
    rw [if_pos hl, hp] at h
    exact absurd h nofun
  · rfl
  · rfl

theorem takeProbeTime_some
    (h : (if s.dli.line = .silent then s.dli.probeTime else none) = some due) :
    s.takeProbeTime = s.probe due := by
  obtain ⟨hl, hp⟩ := Option.ite_none_right_eq_some.1 h
  unfold State.takeProbeTime
  rw [hl, hp]

theorem takeTallyPeriod_none
    (h : (if s.dli.line = .normal then s.tally.lastBuild.map (· + 5000) else none) = none) :
    s.takeTallyPeriod = s := by
  unfold State.takeTallyPeriod
  split
  · rename_i hl hb
    rw [if_pos hl, hb] at h
    exact absurd h nofun
  · rfl
  · rfl

theorem takeTallyPeriod_some
    (h : (if s.dli.line = .normal then s.tally.lastBuild.map (· + 5000) else none) = some due) :
    s.dli.line = .normal ∧ s.takeTallyPeriod = (s.reach due).buildTally := by
  obtain ⟨hl, hb⟩ := Option.ite_none_right_eq_some.1 h
  obtain ⟨b, hlast, rfl⟩ := Option.map_eq_some_iff.1 hb
  unfold State.takeTallyPeriod
  rw [hl, hlast]
  exact ⟨rfl, rfl⟩

/-- At the end of the spacing the clock stands at it, or where it stood (R140). -/
theorem reachSpacing_eq (s : State) :
    s.reachSpacing = s.reach ((s.tally.lastBuild.map (· + 500)).getD s.now) := by
  unfold State.reachSpacing
  cases s.tally.lastBuild with
  | none =>
    show s = s.setNow (max s.now s.now)
    rw [max_self]
    rfl
  | some b => rfl

/-- Settles O56. -/
theorem timedTallies : Obligations.TimedTallies := by
  intro s c hc hra probing due hcases
  have bay {f : State → State} (hb : s.IsBay) :
      (if s.unmoved.IsBay then f s.unmoved else s.unmoved) = f s.unmoved := if_pos hb
  have running {f : State → State} :
      (if s.unmoved.Configured then f s.unmoved else s.unmoved) = f s.unmoved := if_pos hc
  refine ⟨fun hnone => ?_, fun at_ hat => ⟨fun hb => ?_, fun hr hp => ?_⟩⟩
  · have noBay {f : State → State} (h : s.conf.role = .ramp) :
        (if s.unmoved.IsBay then f s.unmoved else s.unmoved) = s.unmoved :=
      if_neg fun hb => Role.noConfusion (hb.2.symm.trans h)
    have quiet {f : State → State} (h : f s.unmoved = s.unmoved) :
        (if s.unmoved.IsBay then f s.unmoved else s.unmoved) = s.unmoved := by
      split
      · exact h
      · rfl
    rcases hcases with rfl | rfl | rfl
    · refine congrArg Host.Outcome.next (event_unmoved (f := fun s =>
        if s.IsBay then s.takeTallyPeriod else s) ?_)
      exact hnone.elim (fun h => quiet (takeTallyPeriod_none (s := s.unmoved) h)) fun h => noBay h.2
    · refine congrArg Host.Outcome.next (event_unmoved (f := fun s =>
        if s.IsBay then s.takeTallySpacing else s) ?_)
      refine hnone.elim (fun h => quiet (if_neg fun hp => ?_)) fun h => noBay h.2
      exact absurd ((if_pos (show s.dli.line = .normal ∧ s.tally.pendingChange = true from
        ⟨hp.2, hp.1⟩)).symm.trans h) nofun
    · refine congrArg Host.Outcome.next (event_unmoved (f := fun s =>
        if s.Configured then s.takeProbeTime else s) (running.trans ?_))
      exact hnone.elim (fun h => takeProbeTime_none (s := s.unmoved) h) fun h =>
        Bool.noConfusion h.1
  · have hbay : s.IsBay := ⟨hc, hb⟩
    rcases hcases with rfl | rfl | rfl
    · obtain ⟨hl, htake⟩ := takeTallyPeriod_some (s := s.unmoved) hat
      obtain ⟨ds, hbuild⟩ := buildTally_timed (s := s) (due := at_) hl
      obtain ⟨t, ht, hnow, htally, hdli, hpayload, hrest⟩ := event_timed (f := fun s =>
        if s.IsBay then s.takeTallyPeriod else s) hbay hra ((bay hbay).trans (htake.trans hbuild))
      refine ⟨t, congrArg Host.Outcome.next ht, hnow, htally, ?_, hrest⟩
      rw [hpayload, htally]
      exact hdli
    · obtain ⟨hpending, hdue⟩ := Option.ite_none_right_eq_some.1 hat
      replace hdue := Option.some.inj hdue
      have htake : s.unmoved.takeTallySpacing = (s.unmoved.reach at_).buildTally := by
        refine (if_pos (show s.unmoved.tally.pendingChange = true ∧ s.unmoved.dli.line = .normal from
          ⟨hpending.2, hpending.1⟩)).trans ?_
        rw [reachSpacing_eq, ← hdue]
      obtain ⟨ds, hbuild⟩ := buildTally_timed (s := s) (due := at_) hpending.1
      obtain ⟨t, ht, hnow, htally, hdli, hpayload, hrest⟩ := event_timed (f := fun s =>
        if s.IsBay then s.takeTallySpacing else s) hbay hra ((bay hbay).trans (htake.trans hbuild))
      refine ⟨t, congrArg Host.Outcome.next ht, hnow, htally, ?_, hrest⟩
      rw [hpayload, htally]
      exact hdli
    · have htake := (takeProbeTime_some (s := s.unmoved) hat).trans (probe_bay hb)
      obtain ⟨t, ht, hnow, htally, hdli, hpayload, hrest⟩ := event_timed (f := fun s =>
        if s.Configured then s.takeProbeTime else s) hbay hra (running.trans htake)
      refine ⟨t, congrArg Host.Outcome.next ht, hnow, htally, ?_, hrest⟩
      rw [hpayload, htally]
      exact hdli
  · obtain rfl := of_decide_eq_true hp
    exact congrArg Host.Outcome.next (event_only (f := fun s =>
      if s.Configured then s.takeProbeTime else s)
      (running.trans ((takeProbeTime_some (s := s.unmoved) hat).trans (probe_ramp hr))))

end Sys2Proof.Machine
end

section
/-! PROOFS. The expiry of the window timer of an open round (O59). -/

namespace Sys2Proof.Machine

open Sys2Proof

variable {s t v : State} {o : OpenRound} {x : Offer} {e : WaitingEntry} {due : Nat} {d : Drop} {ds : List Drop}

/-! ## Drops reported before a held advance is acted on (R115, R152) -/

/-- The ramp with an advance acted on, its drops not yet reported (R115). -/
def State.advanced (s : State) : State :=
  { s with
    tally := { s.tally with callNumber := s.tally.callNumber + 1 }
    dli := s.dli.taking (s.tally.callNumber + 1) (.portcall (s.tally.callNumber + 1))
    rounds := { s.rounds with heldAdvance := false } }

/-- The report of a drop has nothing to do with the advance (R87, R115). -/
theorem dropReported_advanced (d : Drop) (s : State) :
    s.advanced.dropReported d = (s.dropReported d).advanced := by
  cases d with
  | call r => rfl
  | award r bay =>
    unfold State.dropReported
    dsimp only
    rw [show s.advanced.rounds.dispatched = s.rounds.dispatched from rfl]
    cases s.rounds.dispatched.find? fun e => decide (e.round = r) && decide (e.bay = bay) with
    | none => rfl
    | some e =>
      dsimp only
      by_cases hw : s.rounds.waiting.length < Config.maxWaiting
      · refine (if_pos hw).trans (Eq.trans ?_ (congrArg State.advanced (if_pos hw)).symm)
        rfl
      · refine (if_neg hw).trans (Eq.trans ?_ (congrArg State.advanced (if_neg hw)).symm)
        rfl

theorem dropReported_heldAdvance (d : Drop) (s : State) :
    (s.dropReported d).rounds.heldAdvance = s.rounds.heldAdvance := by
  cases d with
  | call r => rfl
  | award r bay =>
    unfold State.dropReported
    dsimp only
    split
    · rfl
    · split <;> rfl

theorem foldl_dropReported_heldAdvance (ds : List Drop) (s : State) :
    (ds.foldl State.dropReported s).rounds.heldAdvance = s.rounds.heldAdvance := by
  induction ds generalizing s with
  | nil => rfl
  | cons d ds ih => rw [List.foldl_cons, ih, dropReported_heldAdvance]

theorem foldl_dropReported_advanced (ds : List Drop) (s : State) :
    ds.foldl State.dropReported s.advanced = (ds.foldl State.dropReported s).advanced := by
  induction ds generalizing s with
  | nil => rfl
  | cons d ds ih => rw [List.foldl_cons, dropReported_advanced, ih, List.foldl_cons]

/-- An event of a ramp whose effect asks for the look ends with it, its drops reported. -/
theorem event_reports {f : State → State} {H : HandedOn} (hv : v.IsRamp)
    (hw : f s.unmoved = v.setHanded H) (hlook : H.look = true) (hrestart : H.restart = false)
    (hl : H.lanes = []) (hi : H.inbound = false) :
    ∃ t, s.event f = t ∧ Looked H.node (H.drops.foldl State.dropReported v) t := by
  obtain ⟨t, look, ht, hasked, h⟩ := event_ramp hw hv hrestart hl hi
  obtain rfl := hasked hlook
  have hended : Looked H.node (H.drops.foldl State.dropReported (v.setHanded H)) t := h
  rw [foldl_dropReported_setHanded] at hended
  exact ⟨t, ht, hended.setHanded⟩

/-- The close of a round whose own frame dropped others: they are reported, a held advance is acted on, and
R82 looks (R82, R115, R152). -/
theorem event_closed_reports {f : State → State} (hv : v.IsRamp)
    (hw : f s.unmoved = (v.setHanded { HandedOn.clear with drops := ds }).actOnHeld.handLook) :
    ∃ t, s.event f = t ∧ Looked v.rounds.heldAdvance (ds.foldl State.dropReported v).heldActed t := by
  have hkept := foldl_dropReported_heldAdvance ds v
  obtain ⟨R, O, hfr⟩ := reported_frame ds v
  unfold State.actOnHeld at hw
  unfold State.heldActed
  by_cases hh : v.rounds.heldAdvance = true
  · rw [if_pos (show (v.setHanded { HandedOn.clear with drops := ds }).rounds.heldAdvance = true from hh),
      actOnAdvance_eq] at hw
    obtain ⟨t, ht, h⟩ := event_reports (v := v.advanced) (H := { HandedOn.clear with
      node := true, look := true
      drops := ds ++ v.dli.dropsOf (v.tally.callNumber + 1) (.portcall (v.tally.callNumber + 1)) })
      hv hw rfl rfl rfl rfl
    refine ⟨t, ht, ?_⟩
    rw [if_pos (hkept.trans hh), hh]
    rw [show (HandedOn.mk _ _ _ _ _ _ _).drops = ds ++ _ from rfl, List.foldl_append,
      foldl_dropReported_advanced] at h
    have hdli : (ds.foldl State.dropReported v).dli = v.dli ∧
        (ds.foldl State.dropReported v).tally = v.tally := by rw [hfr]; exact ⟨rfl, rfl⟩
    rw [hdli.1, hdli.2]
    rw [State.advanced, hdli.1, hdli.2] at h
    exact h
  · rw [if_neg (show ¬ (v.setHanded { HandedOn.clear with drops := ds }).rounds.heldAdvance = true
      from hh)] at hw
    obtain ⟨t, ht, h⟩ := event_reports (v := v) (H := { HandedOn.clear with
      look := true, drops := ds }) hv hw rfl rfl rfl rfl
    refine ⟨t, ht, ?_⟩
    rw [if_neg fun hn => hh (hkept.symm.trans hn), Bool.eq_false_iff.2 hh]
    exact h

/-! ## The close of a round (R85, R86, R108, R109) -/

/-- The ramp once its open round is awarded, the drops of the AWARD not yet reported (R85, R109). -/
def State.awarded (o : OpenRound) (x : Offer) (w : WaitingEntry) (due : Nat) (s : State) : State :=
  let p : Payload := .award { round := o.round, bay := x.bay, lane := x.lane }
  let entry : DispatchedEntry :=
    { round := o.round, arrival := w.arrival, attempts := w.attempts, deck := x.deck
      bay := x.bay, lane := x.lane }
  let v : State :=
    (s.disposed w.arrival.booking (.awarded x.deck x.bay x.lane w.arrival.clamped)).waitingNow
      (s.rounds.waiting.eraseP (·.called))
  { v with
    now := max s.now due
    dli := s.dli.taking s.tally.callNumber p
    rounds := { v.rounds with
      openRound := none
      dispatched := (if 16 ≤ s.rounds.dispatched.length then s.rounds.dispatched.tail
        else s.rounds.dispatched) ++ [entry] } }

theorem dispatch_eq (e : DispatchedEntry) (ds : List DispatchedEntry) :
    dispatch e ds = (if 16 ≤ ds.length then ds.tail else ds) ++ [e] := by
  unfold dispatch
  split <;> rfl

theorem award_eq (hw : s.rounds.waiting.find? (·.called) = some e) :
    (s.unmoved.reach due).award o x =
      (s.awarded o x e due).setHanded { HandedOn.clear with
        drops := s.dli.dropsOf s.tally.callNumber
          (.award { round := o.round, bay := x.bay, lane := x.lane }) } := by
  unfold State.award
  rw [handIn_eq]
  dsimp only
  split
  · rename_i h
    exact absurd (hw.symm.trans h) (Option.some_ne_none e)
  · rename_i k hk
    obtain rfl := Option.some.inj (hw.symm.trans hk)
    rw [dispatch_eq]
    rfl

/-- The ramp once its open round is closed without an award (R86, R108). -/
def State.unawarded (w : WaitingEntry) (due : Nat) (s : State) : State :=
  let v : State :=
    if w.attempts + 1 < s.conf.attemptLimit then
      { s with rounds := { s.rounds with
        waiting := s.rounds.waiting.map fun k =>
          if k.called then
            { k with
              attempts := k.attempts + 1
              notBefore := some (max s.now due + 1000 * s.conf.recallDelay), called := false }
          else k } }
    else
      (s.disposed w.arrival.booking (.shutOut .noOffer)).waitingNow
        (s.rounds.waiting.eraseP (·.called))
  { v with now := max s.now due, rounds := { v.rounds with openRound := none } }

theorem closeWithoutAward_eq (hw : s.rounds.waiting.find? (·.called) = some e) :
    (s.unmoved.reach due).closeWithoutAward = (s.unawarded e due).setHanded HandedOn.clear := by
  unfold State.closeWithoutAward State.unawarded
  dsimp only
  split
  · rename_i h
    exact absurd (hw.symm.trans h) (Option.some_ne_none e)
  · rename_i k hk
    obtain rfl := Option.some.inj (hw.symm.trans hk)
    by_cases hlimit : e.attempts + 1 < s.conf.attemptLimit
    · rw [if_pos hlimit]
      exact if_pos hlimit
    · rw [if_neg hlimit]
      exact if_neg hlimit

theorem State.unawarded_kept (w : WaitingEntry) (due : Nat) (s : State) :
    (s.unawarded w due).rounds.heldAdvance = s.rounds.heldAdvance ∧
      (s.unawarded w due).life = s.life ∧ (s.unawarded w due).node = s.node ∧
        (s.unawarded w due).conf = s.conf := by
  unfold State.unawarded
  dsimp only
  split <;> exact ⟨rfl, rfl, rfl, rfl⟩

/-- An expiry of the window timer acts on the open round (R83). -/
theorem takeWindowExpiry_open (ho : s.rounds.openRound = some o) (hdue : o.windowDue = some due) :
    s.takeWindowExpiry = (s.reach due).expireWindow o := by
  unfold State.takeWindowExpiry
  rw [ho]
  dsimp only
  rw [hdue]

/-- Settles O59. -/
theorem windowEnds : Obligations.WindowEnds := by
  have taken {s : State} (hr : s.IsRamp) :
      (if s.unmoved.IsRamp then s.unmoved.takeWindowExpiry else s.unmoved) = s.unmoved.takeWindowExpiry :=
    if_pos hr
  refine ⟨fun s hr hn o ho due hdue x hx w hw => ?_, fun s hr => ⟨fun o ho due hdue hno w hw => ?_,
    fun hnone => ?_⟩⟩
  · have hexpire : s.unmoved.takeWindowExpiry = ((s.awarded o x w due).setHanded { HandedOn.clear with
        drops := s.dli.dropsOf s.tally.callNumber
          (.award { round := o.round, bay := x.bay, lane := x.lane }) }).actOnHeld.handLook := by
      rw [takeWindowExpiry_open (s := s.unmoved) ho hdue, ← award_eq hw]
      unfold State.expireWindow
      rw [show (s.unmoved.reach due).dli.line = .normal from hn, hx]
    obtain ⟨t, ht, h⟩ := event_closed_reports (v := s.awarded o x w due)
      (f := fun s => if s.IsRamp then s.takeWindowExpiry else s) hr ((taken hr).trans hexpire)
    exact ⟨t, congrArg Host.Outcome.next ht, h⟩
  · have hexpire : s.unmoved.takeWindowExpiry =
        ((s.unawarded w due).setHanded HandedOn.clear).actOnHeld.handLook := by
      rw [takeWindowExpiry_open (s := s.unmoved) ho hdue, ← closeWithoutAward_eq hw]
      unfold State.expireWindow
      rcases hno with hno | hno
      · rw [hno]
        cases (s.unmoved.reach due).dli.line <;> rfl
      · rw [show (s.unmoved.reach due).dli.line = .silent from hno]
    obtain ⟨hheld, hlife, hnode, hconf⟩ := s.unawarded_kept w due
    obtain ⟨t, ht, h⟩ := event_closed_reports (v := s.unawarded w due) (ds := [])
      (f := fun s => if s.IsRamp then s.takeWindowExpiry else s)
      ⟨⟨hlife.trans hr.1.1, fun hu => hr.1.2 (hnode.symm.trans hu)⟩, (congrArg Conf.role hconf).trans hr.2⟩
      ((taken hr).trans hexpire)
    rw [hheld] at h
    exact ⟨t, congrArg Host.Outcome.next ht, h⟩
  · refine congrArg Host.Outcome.next (event_unmoved
      (f := fun s => if s.IsRamp then s.takeWindowExpiry else s) ((taken hr).trans ?_))
    unfold State.takeWindowExpiry
    cases ho : s.rounds.openRound with
    | none => rfl
    | some o =>
      dsimp only
      rw [hnone o (ho ▸ rfl)]

end Sys2Proof.Machine
end

section
/-! PROOFS. The writes of the retained copy: broken, given up, and completed (O23). -/

namespace Sys2Proof.Machine

open Sys2Proof

variable {s : State} {α : Type}

/-! ## A part, and the node copy with its two slots (R177, R179) -/

theorem Part.broken_fields (p : Part α) :
    p.broken.writing = none ∧
      p.broken.kept = if p.writing = none then p.kept else .invalid := by
  unfold Part.broken
  split
  · rename_i h
    exact ⟨h, (if_pos h).symm⟩
  · rename_i h
    exact ⟨rfl, (if_neg (by rw [h]; exact Option.some_ne_none _)).symm⟩

theorem NodePart.broken_fields (p : NodePart) :
    p.broken.writing = none ∧
      p.broken.slotA = (if p.writing.map Prod.fst = some .a then .invalid else p.slotA) ∧
      p.broken.slotB = (if p.writing.map Prod.fst = some .b then .invalid else p.slotB) ∧
      p.broken.later = p.later := by
  unfold NodePart.broken
  cases h : p.writing with
  | none => exact ⟨h, rfl, rfl, rfl⟩
  | some w =>
    obtain ⟨i, c⟩ := w
    cases i <;> exact ⟨rfl, rfl, rfl, rfl⟩

theorem complete_idle {p : NodePart} (c : NodeCopy) (h : p.writing = none) :
    p.complete c = p := by
  unfold NodePart.complete
  rw [h]

/-- The node copy once a write of it is complete (R179). -/
theorem complete_writing {p : NodePart} {w : Slot × NodeCopy} (c : NodeCopy)
    (h : p.writing = some w) :
    (p.complete c).slot w.1 = .valid w.2 ∧ (p.complete c).slot w.1.other = p.slot w.1.other ∧
      (p.complete c).later = w.1 ∧
      (p.complete c).writing = if p.further then some (p.next, c) else none := by
  obtain ⟨i, x⟩ := w
  unfold NodePart.complete
  rw [h]
  cases p.further <;> cases i <;> exact ⟨rfl, rfl, rfl, rfl⟩

/-- The valid slot written later is the one that is read (R179). -/
theorem read_later {p : NodePart} {c : NodeCopy} (h : p.slot p.later = .valid c) :
    p.read = c := by
  unfold NodePart.read
  rw [h]

/-- The completion of a lane copy's write, part by part (R179). -/
theorem completeLane_parts {t : LaneTable} {n : Nat} {l : Lane} (hl : t.lane? n = some l)
    (ps : List LanePart) :
    List.Forall₂ (fun p q : LanePart => q.number = p.number ∧
      (p.number ≠ n ∨ p.part.writing = none → q = p) ∧
      (p.number = n → ∀ c, p.part.writing = some c → q.part.kept = .valid c ∧
        q.part.writing = (if p.part.further then some l.copy else none) ∧
        q.part.further = false)) ps (completeLane t n ps) := by
  unfold completeLane
  rw [hl]
  refine List.forall₂_map_right_iff.2 (List.forall₂_same.2 fun p _ => ?_)
  by_cases hn : p.number = n
  · rw [if_pos hn]
    refine ⟨rfl, fun hidle => ?_, fun _ c hc => ?_⟩
    · have hw := hidle.resolve_left fun h => h hn
      have hpart : p.part.complete l.copy = p.part := by unfold Part.complete; rw [hw]
      rw [hpart]
    · unfold Part.complete
      rw [hc]
      exact ⟨rfl, rfl, rfl⟩
  · rw [if_neg hn]
    exact ⟨rfl, fun _ => rfl, fun h => absurd h hn⟩

/-! ## The commands -/

/-- Settles O23. -/
theorem retainedCopyWrites : Obligations.RetainedCopyWrites := by
  refine ⟨fun s k => ⟨?_, ?_⟩, fun s n => ⟨fun l hl => ?_, ?_, ?_⟩⟩
  · obtain ⟨hiw, hik⟩ := s.retained.inbound.broken_fields
    obtain ⟨hnw, hna, hnb, hnl⟩ := s.retained.node.broken_fields
    refine ⟨_, congrArg Host.Outcome.next (event_only (f := State.takePowerOn)
      (u := { s with life := .starting, retained := s.retained.broken }) rfl), rfl, ?_, hiw, hik,
      hnw, hna, hnb, hnl, rfl, rfl⟩
    exact List.forall₂_map_right_iff.2 (List.forall₂_same.2 fun p _ => ⟨rfl, p.part.broken_fields⟩)
  · exact ⟨_, congrArg Host.Outcome.next (event_only (f := State.takeConfigWrite k)
      (u := { s with store := k, retained := Retained.emptied }) rfl), rfl, rfl, rfl⟩
  · exact ⟨_, congrArg Host.Outcome.next (event_only (f := State.completeWrite (.lane n))
      (u := { s with retained := { s.retained with
        lanes := completeLane s.table n s.retained.lanes } }) rfl),
      completeLane_parts hl s.retained.lanes, rfl⟩
  · refine ⟨_, congrArg Host.Outcome.next (event_only (f := State.completeWrite .inbound)
      (u := { s with retained := { s.retained with
        inbound := s.retained.inbound.complete s.inboundCopy } }) rfl), fun hw => ?_, fun c hc => ?_, rfl⟩
    · show s.retained.inbound.complete s.inboundCopy = s.retained.inbound
      unfold Part.complete
      rw [hw]
    · show s.retained.inbound.complete s.inboundCopy = _
      unfold Part.complete
      rw [hc]
  · refine ⟨_, congrArg Host.Outcome.next (event_only (f := State.completeWrite .node)
      (u := { s with retained := { s.retained with
        node := s.retained.node.complete s.nodeCopy } }) rfl),
      complete_idle s.nodeCopy, fun w hw => ?_, rfl⟩
    obtain ⟨hslot, hother, hlater, hwriting⟩ := complete_writing s.nodeCopy hw
    exact ⟨hslot, hother, hlater, read_later (hlater ▸ hslot), hwriting⟩

end Sys2Proof.Machine
end

section
/-! PROOFS. The start of a ramp, and of a node left UNCONFIGURED (O25). -/

namespace Sys2Proof.Machine

open Sys2Proof

variable {s : State} {b : Bool} {g : Fin 4} {k : Conf} {altered : Bool}

/-! ## The look at the stop line and what follows it (R169, R181) -/

/-- A ramp found in no round takes a stop line found high as the raising of STOP alone (R116, R169). -/
theorem stopEdge_idle (hr : s.conf.role = .ramp) (ho : s.rounds.openRound = none) :
    s.stopEdge = s.raise .stop none := by
  unfold State.stopEdge
  dsimp only
  rw [show (s.raise .stop none).conf.role = .ramp from hr]
  dsimp only
  unfold State.abandonRound
  rw [show (s.raise .stop none).rounds.openRound = none from ho]

theorem listening_ramp (hr : s.conf.role = .ramp) (ho : s.rounds.openRound = none) :
    s.listening =
      { s with
        conditions := if s.stopLine = true then raiseCondition s.now .stop none s.conditions
          else s.conditions
        listenDue := some (s.now + 1000 * s.conf.listenInterval) } := by
  unfold State.listening
  rw [stopEdge_idle hr ho]
  by_cases h : s.stopLine = true
  · rw [if_pos h, if_pos h]
    dsimp only
    rw [show (s.raise .stop none).conf.role = .ramp from hr]
    rfl
  · rw [if_neg h, if_neg h]
    dsimp only
    rw [hr]
    rfl

/-! ## The loaded store (R178) -/

theorem keptLanes_eq_nil {es : List LaneEntry} :
    keptLanes es = [] ↔ ∀ e ∈ es, e.number < 0 ∨ 7 < e.number := by
  unfold keptLanes
  suffices h : ∀ acc : List LaneEntry, es.foldl (fun acc e =>
      if 0 ≤ e.number ∧ e.number ≤ 7 ∧ (acc.any fun k => decide (k.number = e.number)) = false
      then acc ++ [e] else acc) acc = [] ↔ acc = [] ∧ ∀ e ∈ es, e.number < 0 ∨ 7 < e.number from
    (h []).trans (and_iff_right rfl)
  induction es with
  | nil => exact fun acc => (and_iff_left fun e he => absurd he List.not_mem_nil).symm
  | cons e es ih =>
    intro acc
    rw [List.foldl_cons, ih, List.forall_mem_cons]
    by_cases hnew : 0 ≤ e.number ∧ e.number ≤ 7 ∧ (acc.any fun k => decide (k.number = e.number)) = false
    · rw [if_pos hnew]
      refine iff_of_false (fun h => List.append_ne_nil_of_right_ne_nil _ (List.cons_ne_nil e []) h.1) ?_
      rintro ⟨_, hout, _⟩
      omega
    · rw [if_neg hnew, and_congr_right_iff]
      rintro rfl
      refine (and_iff_right ?_).symm
      by_contra hin
      exact hnew ⟨by omega, by omega, rfl⟩

theorem loadConfig_eq_none (c : ConfigStore) : loadConfig c = none ↔
    c.role = .neither ∨
      (c.role = .bay ∧ (c.nodeNumber < 1 ∨ 48 < c.nodeNumber ∨
        ∀ e ∈ c.lanes, e.number < 0 ∨ 7 < e.number)) ∨
      (c.role = .ramp ∧ (c.rampId < 0 ∨ 3 < c.rampId)) := by
  have hunusable : loadConfig c = none ↔ ConfigStore.unusable c = true := by
    unfold loadConfig
    split <;> rename_i h
    · exact iff_of_true rfl h
    · exact iff_of_false (Option.some_ne_none _) h
  rw [hunusable]
  unfold ConfigStore.unusable
  cases c.role with
  | neither => exact iff_of_true rfl (.inl rfl)
  | bay =>
    simp only [Bool.or_eq_true, decide_eq_true_eq, List.isEmpty_iff, keptLanes_eq_nil, or_assoc, reduceCtorEq,
      true_and, false_and, or_false, false_or]
  | ramp =>
    simp only [Bool.or_eq_true, decide_eq_true_eq, reduceCtorEq, true_and, false_and, false_or]

/-! ## START -/

/-- A due start is taken, and with nothing handed on its event ends with it. -/
theorem exec_start {u : State} (hd : s.startDue = true)
    (h : s.unmoved.takeStart b g = u.setHanded HandedOn.clear) :
    exec (.start b g) s = .next (u.setHanded HandedOn.clear) :=
  congrArg Host.Outcome.next (event_only
    (f := fun s => if s.startDue then s.takeStart b g else s)
    ((if_pos (show s.unmoved.startDue = true from hd)).trans h))

/-- The ramp that a start leads to (R180, R181). -/
def State.startedRamp (b : Bool) (g : Fin 4) (k : Conf) (altered : Bool) (s : State) : State :=
  { s with
    stopLine := b, gradientPin := g, life := .running, node := .listen, conf := k
    table := LaneTable.empty, eval := Evaluator.idle
    tally := { TallyUnit.initial with callNumber := s.retained.node.read.callNumber }
    dli := Dli.initial
    rounds := { RoundController.initial with seq := s.retained.node.read.roundSeq, gradient := g }
    conditions :=
      (if altered then [{ code := .configClamped, lane := none, count := 1, age := s.now }]
        else []) ++
      (if b then [{ code := .stop, lane := none, count := 1, age := s.now }] else [])
    sensor := SensorPort.initial, listenDue := some (s.now + 1000 * k.listenInterval)
    retained := { s.retained with stopped := false } }

theorem takeStart_ramp (hload : loadConfig s.store = some (k, altered)) (hr : k.role = .ramp) :
    s.unmoved.takeStart b g = (s.startedRamp b g k altered).setHanded HandedOn.clear := by
  have hrole : ∀ x : Bool, (State.entering x ((s.unmoved.loading b g k).restoreRamp)).conf.role = .ramp ∧
      (State.entering x ((s.unmoved.loading b g k).restoreRamp)).rounds.openRound = none := by
    intro x
    rw [entering_ramp_eq x (s := (s.unmoved.loading b g k).restoreRamp) hr]
    cases x <;> exact ⟨hr, rfl⟩
  rw [takeStart_some (s := s.unmoved) b g hload, hr]
  dsimp only
  rw [listening_ramp (hrole altered).1 (hrole altered).2, entering_ramp_eq altered
    (s := (s.unmoved.loading b g k).restoreRamp) hr]
  cases altered <;> cases b <;> rfl

/-- Settles O25. -/
theorem startOfARampOrNone : Obligations.StartOfARampOrNone := by
  intro s b g
  refine ⟨fun hd x hload hr => exec_start (u := s.startedRamp b g x.1 x.2) hd
      (takeStart_ramp hload hr), fun hd hnone => ?_, loadConfig_eq_none s.store, fun hd => ?_, ?_⟩
  · exact exec_start (u := { s with
      stopLine := b, gradientPin := g, life := .running, node := .unconfigured
      table := LaneTable.empty, eval := Evaluator.idle, tally := TallyUnit.initial
      dli := Dli.initial, rounds := RoundController.initial, conditions := []
      sensor := SensorPort.initial, listenDue := none
      retained := { s.retained with stopped := false } }) hd (takeStart_none (s := s.unmoved) b g hnone)
  · exact congrArg Host.Outcome.next (event_unmoved
      (f := fun s => if s.startDue then s.takeStart b g else s)
      (if_neg (by rw [show s.unmoved.startDue = false from hd]; exact Bool.false_ne_true)))
  · unfold State.startDue
    cases s.life <;> simp

end Sys2Proof.Machine
end


section
/-! PROOFS. The rounding of conv and the ship estimate (R46, R51, R52): MomentsRounded. -/

namespace Sys2Proof.Machine

open Sys2Proof

/-! ## conv and saturation -/

theorem conv_natCast (n : Nat) : conv n = ((n + 50) / 100 : Nat) := if_pos (Int.natCast_nonneg n)

theorem conv_neg (n : Nat) : conv (-n) = -((n + 50) / 100 : Nat) := by
  cases n with
  | zero => rfl
  | succ n => exact if_neg (by omega)

/-- conv is the nearest whole number of hundreds, halves away from zero (R46). -/
theorem conv_rounds (v : Int) :
    (conv v).natAbs = (v.natAbs + 50) / 100 ∧ (0 ≤ v → 0 ≤ conv v) ∧ (v ≤ 0 → conv v ≤ 0) ∧
      2 * (100 * conv v - v).natAbs ≤ 100 ∧
      (2 * (100 * conv v - v).natAbs = 100 → v.natAbs < (100 * conv v).natAbs) := by
  rcases Int.eq_nat_or_neg v with ⟨n, rfl | rfl⟩
  · rw [conv_natCast, Int.natAbs_natCast, Int.natAbs_natCast]
    exact ⟨rfl, fun _ => Int.natCast_nonneg _, by omega, by omega, by omega⟩
  · rw [conv_neg, Int.natAbs_neg, Int.natAbs_neg, Int.natAbs_natCast, Int.natAbs_natCast]
    exact ⟨rfl, by omega, fun _ => by omega, by omega, by omega⟩

theorem saturate_eq (v : Int) :
    saturate v =
      if 2000000000 < v then 2000000000 else if v < -2000000000 then -2000000000 else v := by
  unfold saturate Config.estimateBound
  split
  next h => rw [min_eq_left h.le]; rfl
  next h =>
    rw [min_eq_right (not_lt.1 h)]
    split
    next hl => exact max_eq_left hl.le
    next hl => exact max_eq_right (not_lt.1 hl)

/-! ## The ship estimate -/

/-- A sum over the other peers does not depend on the order of the peers (R51). -/
theorem otherPeers_sum_perm (own : Nat) (f : PeerEntry → Int) {ps qs : List PeerEntry}
    (h : ps.Perm qs) : ((otherPeers own ps).map f).sum = ((otherPeers own qs).map f).sum :=
  ((h.filter _).map f).sum_eq

/-- A candidate's moment is less than what a saturated estimate lies above the heel limit (R52, R43). -/
theorem test13_saturated {c : Conf} {snap : Snapshot} {l : LaneSnap} {a : Arrival}
    (hs : snap.st = 2000000000 ∨ snap.st = -2000000000) (h0 : 0 < c.mtLim) (h1 : c.mtLim ≤ 2000000)
    (hm : (a.weight * l.conf.y).natAbs ≤ 120000) : test13 c (candidateT snap l a) = false := by
  have hc : (conv (a.weight * l.conf.y)).natAbs ≤ 1200 := (conv_rounds _).1.trans_le (by omega)
  have hT : 1999998800 ≤ (candidateT snap l a).natAbs := by
    rw [candidateT, momentT, saturate_eq]
    generalize conv (a.weight * l.conf.y) = m at hc
    rcases hs with hs | hs
    · rw [hs]; split <;> omega
    · rw [hs, if_neg (by omega)]; split <;> omega
  rw [test13, decide_eq_false (by omega), decide_eq_false (by omega)]; rfl

/-- Settles O19: conv case by case of the sign; the estimate is a saturated sum of a permutable list. -/
theorem momentsRounded : Obligations.MomentsRounded := by
  intro v s ps c snap l a
  refine ⟨conv_rounds v, saturate_eq _, saturate_eq _, fun h => ⟨?_, ?_⟩, test13_saturated⟩
  · exact congrArg (fun n => saturate (s.conf.baseMT + conv s.tally.ownT + n))
      (otherPeers_sum_perm _ _ h)
  · exact congrArg (fun n => saturate (s.conf.baseML + conv s.tally.ownL + n))
      (otherPeers_sum_perm _ _ h)

end Sys2Proof.Machine

end


section
/-! PROOFS. The bytes of a deck line frame determine it (R163): FrameBytesDetermineFrame. -/

namespace Sys2Proof.Machine

open Sys2Proof

/-! ## Fields of more than one byte -/

/-- A word is determined by its bytes. -/
theorem eq_of_bytes {n : Nat} {x y : BitVec (8 * n)}
    (h : (List.range n).reverse.map (fun j => x.extractLsb' (8 * j) 8) =
      (List.range n).reverse.map (fun j => y.extractLsb' (8 * j) 8)) : x = y := by
  refine BitVec.eq_of_getLsbD_eq fun i hi => ?_
  have hj := List.map_inj_left.1 h (i / 8) (List.mem_reverse.2 (List.mem_range.2 (Nat.div_lt_of_lt_mul hi)))
  have hbit := congrArg (fun b : Byte => b.getLsbD (i % 8)) hj
  simpa only [BitVec.getLsbD_extractLsb', Nat.mod_lt i (Nat.succ_pos 7), decide_true, Bool.true_and,
    Nat.div_add_mod] using hbit

theorem bytes2_inj {x y : Word16} : bytes2 x = bytes2 y ↔ x = y :=
  ⟨eq_of_bytes (n := 2), congrArg _⟩

theorem bytes3_inj {x y : BitVec 24} : bytes3 x = bytes3 y ↔ x = y :=
  ⟨eq_of_bytes (n := 3), congrArg _⟩

theorem bytes4_inj {x y : BitVec 32} : bytes4 x = bytes4 y ↔ x = y :=
  ⟨eq_of_bytes (n := 4), congrArg _⟩

theorem bytes5_inj {x y : BookingWord} : bytes5 x = bytes5 y ↔ x = y :=
  ⟨eq_of_bytes (n := 5), congrArg _⟩

section
variable {u v : List Byte}

theorem bytes2_append_inj {x y : Word16} : bytes2 x ++ u = bytes2 y ++ v ↔ x = y ∧ u = v := by
  rw [← bytes2_inj]; exact List.append_eq_append_iff_of_size_eq_left rfl

theorem bytes3_append_inj {x y : BitVec 24} : bytes3 x ++ u = bytes3 y ++ v ↔ x = y ∧ u = v := by
  rw [← bytes3_inj]; exact List.append_eq_append_iff_of_size_eq_left rfl

theorem bytes4_append_inj {x y : BitVec 32} : bytes4 x ++ u = bytes4 y ++ v ↔ x = y ∧ u = v := by
  rw [← bytes4_inj]; exact List.append_eq_append_iff_of_size_eq_left rfl

theorem bytes5_append_inj {x y : BookingWord} : bytes5 x ++ u = bytes5 y ++ v ↔ x = y ∧ u = v := by
  rw [← bytes5_inj]; exact List.append_eq_append_iff_of_size_eq_left rfl

theorem bytes_append_inj {r q : RoundId} :
    RoundId.bytes r ++ u = RoundId.bytes q ++ v ↔ r = q ∧ u = v := by
  cases r; cases q
  simp only [RoundId.bytes, List.cons_append, List.nil_append, List.cons.injEq, RoundId.mk.injEq,
    and_assoc]

end

/-! ## Payloads -/

theorem ArrivalWire.bytes_inj {a b : ArrivalWire} (h : ArrivalWire.bytes a = ArrivalWire.bytes b) :
    a = b := by
  simp only [ArrivalWire.bytes, List.append_assoc, bytes5_append_inj, bytes2_append_inj,
    List.cons_append, List.nil_append, List.cons.injEq, and_true] at h
  exact (ArrivalWire.mk.injEq ..).mpr h

theorem CallPayload.bytes_inj {p q : CallPayload} (h : CallPayload.bytes p = CallPayload.bytes q) :
    p = q := by
  simp only [CallPayload.bytes, List.append_assoc, bytes_append_inj, List.cons_append,
    List.nil_append, List.cons.injEq] at h
  obtain ⟨hr, hd, hw, ha⟩ := h
  exact (CallPayload.mk.injEq ..).mpr ⟨hr, hd, hw, ArrivalWire.bytes_inj ha⟩

theorem OfferPayload.bytes_inj {p q : OfferPayload}
    (h : OfferPayload.bytes p = OfferPayload.bytes q) : p = q := by
  simp only [OfferPayload.bytes, List.append_assoc, bytes_append_inj, List.cons_append,
    List.nil_append, List.cons.injEq, bytes2_inj] at h
  exact (OfferPayload.mk.injEq ..).mpr h

theorem AwardPayload.bytes_inj {p q : AwardPayload}
    (h : AwardPayload.bytes p = AwardPayload.bytes q) : p = q := by
  simp only [AwardPayload.bytes, bytes_append_inj, List.cons.injEq, and_true] at h
  exact (AwardPayload.mk.injEq ..).mpr h

theorem DeclinePayload.bytes_inj {p q : DeclinePayload}
    (h : DeclinePayload.bytes p = DeclinePayload.bytes q) : p = q := by
  simp only [DeclinePayload.bytes, bytes_append_inj, List.cons.injEq, and_true] at h
  exact (DeclinePayload.mk.injEq ..).mpr h

theorem PlacedPayload.bytes_inj {p q : PlacedPayload}
    (h : PlacedPayload.bytes p = PlacedPayload.bytes q) : p = q := by
  simp only [PlacedPayload.bytes, List.append_assoc, bytes_append_inj, bytes5_append_inj,
    List.cons_append, List.nil_append, List.cons.injEq, bytes2_inj] at h
  exact (PlacedPayload.mk.injEq ..).mpr h

theorem MissingPayload.bytes_inj {p q : MissingPayload}
    (h : MissingPayload.bytes p = MissingPayload.bytes q) : p = q := by
  simp only [MissingPayload.bytes, List.cons_append, List.nil_append,
    List.cons.injEq, bytes_append_inj, bytes5_inj, true_and] at h
  exact (MissingPayload.mk.injEq ..).mpr h

theorem TallyPayload.bytes_inj {p q : TallyPayload}
    (h : TallyPayload.bytes p = TallyPayload.bytes q) : p = q := by
  simp only [TallyPayload.bytes, List.append_assoc, List.cons_append, List.nil_append,
    List.cons.injEq, bytes3_append_inj, bytes4_append_inj, bytes2_append_inj, and_true] at h
  exact (TallyPayload.mk.injEq ..).mpr h

/-- The kind byte and the payload bytes determine the payload: the kind byte tells the kinds apart, and
the subtype byte the two notices. -/
theorem Payload.bytes_inj {p q : Payload} (hk : p.kindCode = q.kindCode) (h : p.bytes = q.bytes) :
    p = q := by
  replace hk : p.kindCode.toNat = q.kindCode.toNat := congrArg _ hk
  cases p with
  | call x =>
    cases q with
    | call y => exact congrArg _ (CallPayload.bytes_inj h)
    | _ => exact absurd hk (Nat.ne_of_beq_eq_false rfl)
  | offer x =>
    cases q with
    | offer y => exact congrArg _ (OfferPayload.bytes_inj h)
    | _ => exact absurd hk (Nat.ne_of_beq_eq_false rfl)
  | award x =>
    cases q with
    | award y => exact congrArg _ (AwardPayload.bytes_inj h)
    | _ => exact absurd hk (Nat.ne_of_beq_eq_false rfl)
  | decline x =>
    cases q with
    | decline y => exact congrArg _ (DeclinePayload.bytes_inj h)
    | _ => exact absurd hk (Nat.ne_of_beq_eq_false rfl)
  | placed x =>
    cases q with
    | placed y => exact congrArg _ (PlacedPayload.bytes_inj h)
    | _ => exact absurd hk (Nat.ne_of_beq_eq_false rfl)
  | tally x =>
    cases q with
    | tally y => exact congrArg _ (TallyPayload.bytes_inj h)
    | _ => exact absurd hk (Nat.ne_of_beq_eq_false rfl)
  | noticeWithdrawn =>
    cases q with
    | noticeWithdrawn => rfl
    | noticeMissing y => exact absurd (congrArg List.length h) (Nat.ne_of_beq_eq_false rfl)
    | _ => exact absurd hk (Nat.ne_of_beq_eq_false rfl)
  | noticeMissing x =>
    cases q with
    | noticeMissing y => exact congrArg _ (MissingPayload.bytes_inj h)
    | noticeWithdrawn => exact absurd (congrArg List.length h) (Nat.ne_of_beq_eq_false rfl)
    | _ => exact absurd hk (Nat.ne_of_beq_eq_false rfl)
  | portcall n =>
    cases q with
    | portcall m => exact congrArg _ (List.cons.inj h).1
    | _ => exact absurd hk (Nat.ne_of_beq_eq_false rfl)

theorem bytes_length (p : Payload) : p.bytes.length = p.length := by cases p <;> rfl

/-! ## Frames -/

theorem body_inj {f g : Frame} (h : f.body = g.body) : f = g := by
  simp only [Frame.body, List.cons_append, List.nil_append, List.cons.injEq] at h
  obtain ⟨-, hs, hk, hn, -, hp⟩ := h
  exact (Frame.mk.injEq ..).mpr ⟨hs, hn, Payload.bytes_inj hk hp⟩

/-- Settles O22: the check word is the last two bytes, and what stands before it is read field by field. -/
theorem frameBytesDetermineFrame : Obligations.FrameBytesDetermineFrame := fun f _ =>
  ⟨fun h => body_inj (List.append_inj_left' h rfl), bytes_length _,
    by simp only [Frame.bytes, Frame.body, bytes2, List.length_append, List.length_cons,
         List.length_nil, bytes_length]; omega,
    decide_eq_true rfl⟩

end Sys2Proof.Machine

end


section
/-! PROOFS. The tests of a lane, the terms and the score (R16, R17, R25 to R45, R54 to R59):
ScoresInRange. -/

namespace Sys2Proof.Machine

open Sys2Proof

variable {c : Conf} {snap : Snapshot} {st : Stowage} {l : LaneSnap} {a : Arrival} {gap : Int}

/-! ## What stands behind the placed records of a lane -/

/-- The arrivals awarded and then reserved for a lane, in the order of the planning list (R15). -/
def Stowage.behind (st : Stowage) (n : Nat) : List Arrival :=
  (st.inboundOf n).map (·.arrival) ++ (st.reservationsOf n).map (·.arrival)

/-- The rank and the group of the planning tail: of the last arrival awarded or reserved, or else of the last
placed record (R15, R36, R39). -/
def Stowage.tailFacts (st : Stowage) (l : LaneSnap) : Option (Option Nat × Option Group) :=
  match (st.behind l.number).getLast? with
  | some x => some (some x.rank, x.hazard.group?)
  | none => l.placed.getLast?.map fun r => (r.rank, r.hazard)

/-- The order term by the rank of the planning tail (R36). -/
def orderOf (a : Arrival) (tail : Option (Option Nat × Option Group)) : Option Int :=
  match tail with
  | none => some 256
  | some (none, _) => none
  | some (some r, _) =>
    if a.rank = r then some 256 else if a.rank < r then some 128
    else if a.overstow = true then some 0 else none

/-- Two vehicles whose groups are separated stand clear of each other in adjacent lanes (R40). -/
def ClearOf (a : Arrival) (p : Int) (group : Option Group) (front length : Int) : Prop :=
  separatedGroups group a.hazard.group? = false ∨ p + a.length ≤ front - 30 ∨
    front + length + 30 ≤ p

theorem Stowage.planned_behind (st : Stowage) (gap : Int) (l : LaneSnap) :
    st.planned gap l = l.used + ((st.behind l.number).map fun x => x.length + gap).sum := by
  rw [Stowage.behind, List.map_append, List.sum_append, List.map_map, List.map_map, ← Int.add_assoc]
  rfl

theorem Stowage.planningTail_eq (st : Stowage) (l : LaneSnap) :
    st.planningTail l =
      (((st.reservationsOf l.number).getLast?.map .reserved).or
        (((st.inboundOf l.number).getLast?.map .inbound).or (l.placed.getLast?.map .placed))) := by
  simp only [Stowage.planningTail, Stowage.planningList, List.getLast?_append, List.getLast?_map]

theorem Stowage.behind_getLast? (st : Stowage) (n : Nat) :
    (st.behind n).getLast? =
      ((st.reservationsOf n).getLast?.map (·.arrival)).or
        ((st.inboundOf n).getLast?.map (·.arrival)) := by
  simp only [Stowage.behind, List.getLast?_append, List.getLast?_map]

theorem Stowage.planningTail_facts (st : Stowage) (l : LaneSnap) :
    (st.planningTail l).map (fun i => (i.rank, i.group)) = st.tailFacts l := by
  rw [Stowage.tailFacts, st.planningTail_eq, st.behind_getLast?]
  cases (st.reservationsOf l.number).getLast? with
  | some r => rfl
  | none =>
    cases (st.inboundOf l.number).getLast? with
    | some e => rfl
    | none => cases l.placed.getLast? <;> rfl

/-! ## The tests one by one -/

theorem Stowage.not_held (st : Stowage) (l : LaneSnap) :
    (!st.held l) = true ↔
      ¬ (st.behind l.number = [] ∧
        ∃ r ∈ l.placed.getLast?, r.status = .unidentified ∧ r.rank = none) := by
  rw [Stowage.held, st.planningTail_eq, ← List.getLast?_eq_none_iff, st.behind_getLast?]
  cases (st.reservationsOf l.number).getLast? with
  | some r => exact ⟨fun _ h => absurd h.1 nofun, fun _ => rfl⟩
  | none =>
    cases (st.inboundOf l.number).getLast? with
    | some e => exact ⟨fun _ h => absurd h.1 nofun, fun _ => rfl⟩
    | none =>
      cases l.placed.getLast? with
      | none =>
        exact ⟨fun _ h => by obtain ⟨-, r, hr, -⟩ := h; exact absurd hr nofun, fun _ => rfl⟩
      | some r =>
        simp only [Option.map_none, Option.map_some, Option.none_or, Option.mem_def, Option.some.injEq,
          exists_eq_left', true_and, Record.rankless, Bool.not_eq_true', Bool.and_eq_false_iff,
          decide_eq_false_iff_not, Option.isNone_eq_false_iff, Option.isSome_iff_ne_none, not_and_or]

theorem test3_iff : test3 st gap l = true ↔ l.placed.length < 24 ∧ 22 ≤ st.free gap l := by
  simp [test3, Stowage.full]

theorem test4_iff : test4 st l = true ↔ l.placed.length + (st.behind l.number).length < 24 := by
  simp [test4, Stowage.planningList, Stowage.behind]

theorem test6_iff : test6 l a = true ↔ ∀ x ∈ l.conf.careSet, (a.has x = true ↔ x ∈ l.conf.matchSet) := by
  rw [test6, LaneConf.accepts, List.all_eq_true]
  refine forall₂_congr fun x _ => ?_
  rw [beq_iff_eq, Bool.eq_iff_iff, List.contains_iff_mem]

theorem test8_iff : test8 st l a = true ↔
    (a.reefer = true → l.sockets + (st.behind l.number).countP (·.reefer) + 1 ≤ l.conf.sockets) := by
  rw [Stowage.behind, List.countP_append, List.countP_map, List.countP_map, ← Nat.add_assoc]
  rw [test8, Bool.or_eq_true, Bool.not_eq_true', decide_eq_true_eq, Stowage.committedSockets,
    ← Bool.not_eq_true, ← imp_iff_not_or]
  rfl

theorem orderTerm_eq : orderTerm st l a = orderOf a (st.tailFacts l) := by
  rw [← st.planningTail_facts, orderTerm]
  cases st.planningTail l with
  | none => rfl
  | some i => rw [Option.map_some]; cases h : i.rank <;> simp only [orderOf, h]

theorem sameLaneTest_iff : sameLaneTest st l a = true ↔
    ∀ t ∈ st.tailFacts l, separatedGroups t.2 a.hazard.group? = false := by
  rw [← st.planningTail_facts, sameLaneTest]
  cases st.planningTail l with
  | none => exact iff_of_true rfl fun _ h => absurd h nofun
  | some i => simp only [Option.map_some, Option.mem_some_iff, forall_eq', Bool.not_eq_true']

theorem clearOf_iff {p : Int} {i : PlanItem} :
    (!(separatedGroups i.group a.hazard.group? && spansOverlap i.front i.length p a.length)) = true ↔
      ClearOf a p i.group i.front i.length := by
  simp only [ClearOf, spansOverlap, Config.segregationDistance, Bool.not_eq_true', Bool.and_eq_false_iff,
    decide_eq_false_iff_not, Int.not_lt]

theorem planningList_all {f : PlanItem → Bool} : (st.planningList l).all f = true ↔
    (∀ r ∈ l.placed, f (.placed r) = true) ∧ (∀ e ∈ st.inboundOf l.number, f (.inbound e) = true) ∧
      ∀ r ∈ st.reservationsOf l.number, f (.reserved r) = true := by
  simp only [Stowage.planningList, List.all_append, List.all_map, Bool.and_eq_true, List.all_eq_true,
    Function.comp_apply, and_assoc]

theorem adjacentLaneTest_iff : adjacentLaneTest st gap l a = true ↔
    ∀ k ∈ st.lanes, k.number = l.number + 1 ∨ l.number = k.number + 1 →
      (∀ r ∈ k.placed, ClearOf a (st.planned gap l) r.hazard r.front r.length) ∧
      (∀ e ∈ st.inboundOf k.number,
        ClearOf a (st.planned gap l) e.arrival.hazard.group? e.front e.arrival.length) ∧
      (∀ r ∈ st.reservationsOf k.number,
        ClearOf a (st.planned gap l) r.arrival.hazard.group? r.front r.arrival.length) := by
  rw [adjacentLaneTest, List.all_filter, List.all_eq_true]
  refine forall₂_congr fun k _ => ?_
  rw [Bool.or_eq_true, Bool.not_eq_true', ← Bool.not_eq_true, ← imp_iff_not_or, planningList_all,
    adjacent, Bool.or_eq_true, decide_eq_true_eq, decide_eq_true_eq]
  simp only [clearOf_iff]
  rfl

theorem test12_iff : test12 st a = true ↔
    (∀ k ∈ st.lanes, ∀ r ∈ k.placed, r.booking ≠ some a.booking) ∧
      (∀ e ∈ st.inbound, e.arrival.booking ≠ a.booking) ∧
      (∀ r ∈ st.reservations, r.arrival.booking ≠ a.booking) := by
  simp [test12, Stowage.bookings]

theorem test13_iff {v : Int} : test13 c v = true ↔ c.mtLim = 0 ∨ (v.natAbs : Int) ≤ c.mtLim := by
  rw [test13, Bool.or_eq_true, decide_eq_true_eq, decide_eq_true_eq]

theorem test14_iff {v : Int} : test14 c v = true ↔ c.mlMax < c.mlMin ∨ inLimits c.mlMin c.mlMax v := by
  rw [test14, Bool.or_eq_true, Bool.and_eq_true, decide_eq_true_eq, decide_eq_true_eq, decide_eq_true_eq]

/-- The ranges that an arrival record keeps within (R25, R26). -/
def ArrivalRanges (a : Arrival) : Prop :=
  1 ≤ a.booking ∧ a.booking < 2 ^ 40 ∧ a.kind.kind? ≠ none ∧ inLimits 20 250 a.length ∧
    inLimits 15 45 a.width ∧ inLimits 10 50 a.height ∧ inLimits 5 600 a.weight ∧
    inLimits 5 200 a.axle ∧ (a.hazard = .none ∨ a.hazard.group? ≠ none) ∧
    1 ≤ a.rank ∧ a.rank ≤ 15

theorem inRange_iff : a.inRange = true ↔ ArrivalRanges a := by
  simp only [Arrival.inRange, ArrivalRanges, Bool.and_eq_true, decide_eq_true_eq, and_assoc,
    Option.isSome_iff_ne_none]
  cases a.hazard <;> simp [HazardField.group?]

/-! ## The verdict for a lane -/

/-- What R29 asks of an arrival and a lane with planned length `p`, but for the order (R36). -/
def Eligible (c : Conf) (snap : Snapshot) (a : Arrival) (l : LaneSnap) (p : Int) : Prop :=
  ArrivalRanges a ∧ l.stored = .opened ∧
    ¬ (snap.stowage.behind l.number = [] ∧
      ∃ r ∈ l.placed.getLast?, r.status = .unidentified ∧ r.rank = none) ∧
    (l.placed.length < 24 ∧ 22 ≤ l.conf.length - p) ∧
    l.placed.length + (snap.stowage.behind l.number).length < 24 ∧
    a.length + c.gap ≤ l.conf.length - p ∧
    (∀ x ∈ l.conf.careSet, (a.has x = true ↔ x ∈ l.conf.matchSet)) ∧ a.axle ≤ l.conf.axle ∧
    (a.reefer = true →
      l.sockets + (snap.stowage.behind l.number).countP (·.reefer) + 1 ≤ l.conf.sockets) ∧
    (∀ t ∈ snap.stowage.tailFacts l, separatedGroups t.2 a.hazard.group? = false) ∧
    (∀ k ∈ snap.stowage.lanes, k.number = l.number + 1 ∨ l.number = k.number + 1 →
      (∀ r ∈ k.placed, ClearOf a p r.hazard r.front r.length) ∧
      (∀ e ∈ snap.stowage.inboundOf k.number,
        ClearOf a p e.arrival.hazard.group? e.front e.arrival.length) ∧
      (∀ r ∈ snap.stowage.reservationsOf k.number,
        ClearOf a p r.arrival.hazard.group? r.front r.arrival.length)) ∧
    snap.stowage.weight + a.weight ≤ c.bayWeightLimit ∧
    (∀ k ∈ snap.stowage.lanes, ∀ r ∈ k.placed, r.booking ≠ some a.booking) ∧
    (∀ e ∈ snap.stowage.inbound, e.arrival.booking ≠ a.booking) ∧
    (∀ r ∈ snap.stowage.reservations, r.arrival.booking ≠ a.booking) ∧
    (c.mtLim = 0 ∨ ((candidateT snap l a).natAbs : Int) ≤ c.mtLim) ∧
    (c.mlMax < c.mlMin ∨ inLimits c.mlMin c.mlMax
      (saturate (snap.sl + conv (momentL a.weight (l.conf.xf - p - a.length / 2)))))

theorem tests_iff : (bayTests c snap.stowage a && laneTests c snap l a) = true ↔
    Eligible c snap a l (snap.stowage.planned c.gap l) := by
  simp only [bayTests, laneTests, test10, Bool.and_eq_true, inRange_iff, test12_iff, test2,
    Stowage.not_held, test3_iff, test4_iff, test6_iff, test8_iff, sameLaneTest_iff,
    adjacentLaneTest_iff, test13_iff, test14_iff, test1, test5, test7, test11, decide_eq_true_eq]
  constructor
  · rintro ⟨⟨⟨hr, hw⟩, hb, hi, hs⟩,
      ⟨⟨⟨⟨⟨⟨⟨⟨⟨h1, h2⟩, h3⟩, h4⟩, h5⟩, h6⟩, h7⟩, h8⟩, h9, h10⟩, h13⟩, h14⟩
    exact ⟨hr, h1, h2, h3, h4, h5, h6, h7, h8, h9, h10, hw, hb, hi, hs, h13, h14⟩
  · rintro ⟨hr, h1, h2, h3, h4, h5, h6, h7, h8, h9, h10, hw, hb, hi, hs, h13, h14⟩
    exact ⟨⟨⟨hr, hw⟩, hb, hi, hs⟩,
      ⟨⟨⟨⟨⟨⟨⟨⟨⟨h1, h2⟩, h3⟩, h4⟩, h5⟩, h6⟩, h7⟩, h8⟩, h9, h10⟩, h13⟩, h14⟩

/-- A lane's verdict, by the planned length written out (R29, R45). -/
theorem laneVerdict_iff {v : LaneVerdict} {p : Int} (hp : snap.stowage.planned c.gap l = p) :
    laneVerdict c snap a l = some v ↔
      Eligible c snap a l p ∧ orderOf a (snap.stowage.tailFacts l) = some v.order ∧
        v = { lane := l.number, order := v.order, free := l.conf.length - p
              sT := candidateT snap l a
              sL := saturate (snap.sl + conv (momentL a.weight (l.conf.xf - p - a.length / 2)))
              front := p, centre := l.conf.xf - p - a.length / 2 } := by
  subst hp
  rw [laneVerdict, Option.ite_none_right_eq_some, tests_iff, orderTerm_eq, Option.map_eq_some_iff]
  refine and_congr_right fun _ => ⟨?_, fun ⟨ho, hv⟩ => ⟨_, ho, hv.symm⟩⟩
  rintro ⟨d, ho, rfl⟩
  exact ⟨ho, rfl⟩

/-! ## The terms and the score -/

theorem orderOf_cases {tail : Option (Option Nat × Option Group)} {d : Int}
    (h : orderOf a tail = some d) : d = 0 ∨ d = 128 ∨ d = 256 := by
  match tail, h with
  | none, h => exact .inr (.inr (Option.some.inj h).symm)
  | some (some r, _), h =>
    rw [orderOf] at h
    split at h
    · exact .inr (.inr (Option.some.inj h).symm)
    · split at h
      · exact .inr (.inl (Option.some.inj h).symm)
      · exact .inl (Option.some.inj (Option.ite_none_right_eq_some.1 h).2).symm

/-- A vehicle of 22 dm or more with its gap, in a free length that takes it (R57). -/
theorem fitTerm_inLimits {e f : Int} (he : 22 ≤ e) (hef : e ≤ f) (hf : f ≤ 1200) :
    inLimits 1 256 (fitTerm e f) ∧ (fitTerm e f = 256 ↔ f = e) := by
  have h0 : 0 < f := by omega
  have htop : fitTerm e f ≤ 256 := Int.ediv_le_of_le_mul h0 (by omega)
  refine ⟨⟨(Int.le_ediv_iff_mul_le h0).2 (by omega), htop⟩, fun h => ?_, fun h => ?_⟩
  · have := (Int.le_ediv_iff_mul_le h0).1 h.ge
    omega
  · exact h ▸ Int.mul_ediv_cancel 256 h0.ne'

theorem heelTerm_inLimits {m v : Int} (h0 : 0 ≤ m) (h : m = 0 ∨ (v.natAbs : Int) ≤ m) :
    inLimits 0 256 (heelTerm m v) := by
  rw [heelTerm]
  split
  · decide
  next hm =>
    have hpos : 0 < m := lt_of_le_of_ne h0 (Ne.symm hm)
    have := h.resolve_left hm
    exact ⟨Int.ediv_nonneg (by omega) h0, Int.ediv_le_of_le_mul hpos (by omega)⟩

/-- A mean of terms in 0..256 lies in 0..256 (R58). -/
theorem weightedScore_inLimits {x y z f d h : Int} (hx : 0 ≤ x) (hy : 0 ≤ y) (hz : 0 ≤ z)
    (hs : 0 < x + y + z) (hf : inLimits 0 256 f) (hd : inLimits 0 256 d) (hh : inLimits 0 256 h) :
    inLimits 0 256 (weightedScore (x, y, z) f d h) := by
  have hxf := mul_le_mul_of_nonneg_left hf.2 hx
  have hyd := mul_le_mul_of_nonneg_left hd.2 hy
  have hzh := mul_le_mul_of_nonneg_left hh.2 hz
  exact ⟨Int.ediv_nonneg (add_nonneg (add_nonneg (mul_nonneg hx hf.1) (mul_nonneg hy hd.1))
    (mul_nonneg hz hh.1)) hs.le, Int.ediv_le_of_le_mul hs (by linarith only [hxf, hyd, hzh])⟩

theorem score_inLimits {v : LaneVerdict} (hF : inLimits 0 15 c.wF) (hD : inLimits 0 15 c.wD)
    (hH : inLimits 0 15 c.wH) (hf : inLimits 0 256 (fitTerm (a.extent c.gap) v.free))
    (hd : inLimits 0 256 v.order) (hh : inLimits 0 256 (heelTerm c.mtLim v.sT)) :
    inLimits 0 256 (score c a v) := by
  rw [score, scoreWeights]
  split
  · exact weightedScore_inLimits (by decide) (by decide) (by decide) (by decide) hf hd hh
  · exact weightedScore_inLimits hF.1 hD.1 hH.1 (by omega) hf hd hh

/-- Settles O20: the tests one by one, and the bounds of the terms from the tests that hold. -/
theorem scoresInRange : Obligations.ScoresInRange := by
  refine ⟨fun c snap a l v hg hm hF hD hH hv hfree => ?_, fun c snap a l v =>
    ⟨laneVerdict_iff (Stowage.planned_behind _ _ _), rfl, rfl⟩⟩
  obtain ⟨he, ho, hv⟩ := (laneVerdict_iff rfl).1 hv
  obtain ⟨⟨-, -, -, hlen, -⟩, -, -, -, -, hfits, -, -, -, -, -, -, -, -, -, hheel, -⟩ := he
  have hsT : v.sT = candidateT snap l a := congrArg LaneVerdict.sT hv
  have hfr : v.free = l.conf.length - snap.stowage.planned c.gap l := congrArg LaneVerdict.free hv
  obtain ⟨hfit, hfull⟩ := fitTerm_inLimits (e := a.extent c.gap) (f := v.free)
    (add_le_add hlen.1 hg) (hfits.trans_eq hfr.symm) hfree
  have horder := orderOf_cases ho
  have hh := heelTerm_inLimits hm (hsT ▸ hheel)
  exact ⟨horder, hfit, hfull, hh, score_inLimits hF hD hH ⟨by omega, hfit.2⟩ (by omega) hh⟩

end Sys2Proof.Machine

end


section
/-! PROOFS. The retained copy follows the stowage (R18, R179, R180): CopiesKeptFollowing. -/

namespace Sys2Proof.Machine

open Sys2Proof

variable {c : Instr} {s t u v : State}

/-! ## One part, and the node copy -/

/-- A part that is touched with the contents as they stand follows them (R179). -/
theorem touch_follows {α : Type} (x : α) (p : Part α) : (p.touch x).Follows x := by
  rcases p.touch_cases x with ⟨_, he⟩ | ⟨w, hw, he⟩ <;> rw [he]
  · exact ⟨nofun, fun y hy => .inl (Option.some.inj hy).symm⟩
  · exact ⟨fun h => absurd (hw.symm.trans h) nofun, fun _ _ => .inr rfl⟩

/-- A completed write leaves a part that follows the contents as they stand (R179). -/
theorem complete_follows {α : Type} {x : α} {p : Part α} (h : p.Follows x) : (p.complete x).Follows x := by
  rcases p.complete_cases x with ⟨_, he⟩ | ⟨w, hw, he⟩ <;> rw [he]
  · exact h
  · cases hf : p.further with
    | true => exact ⟨nofun, fun y hy => .inl (Option.some.inj hy).symm⟩
    | false =>
      have hx := (h.2 w hw).resolve_right (by rw [hf]; exact Bool.false_ne_true)
      exact ⟨fun _ => congrArg Kept.valid hx, nofun⟩

/-- The node copy has the values of the state, or a write in flight that carries them or is followed by one
(R179). -/
def NodeStands (s : State) (p : NodePart) : Prop :=
  (p.writing = none → p.read.Agrees s) ∧ ∀ w ∈ p.writing, w.2.Agrees s ∨ p.further = true

theorem nodeCopy_agrees (s : State) : s.nodeCopy.Agrees s := ⟨rfl, fun _ => rfl, fun _ => rfl⟩

theorem touch_nodeStands (s : State) (p : NodePart) : NodeStands s (p.touch s.nodeCopy) := by
  unfold NodePart.touch
  split
  · exact ⟨nofun, fun w hw => .inl (Option.some.inj hw ▸ nodeCopy_agrees s)⟩
  next hw => exact ⟨fun h => absurd (hw.symm.trans h) nofun, fun _ _ => .inr rfl⟩

theorem complete_nodeStands {p : NodePart} (h : NodeStands s p) :
    NodeStands s (p.complete s.nodeCopy) := by
  cases hw : p.writing with
  | none => rw [complete_idle _ hw]; exact h
  | some w =>
    obtain ⟨hslot, -, hlater, hwriting⟩ := complete_writing s.nodeCopy hw
    cases hf : p.further with
    | true =>
      rw [hf, if_pos rfl] at hwriting
      exact ⟨fun hn => absurd (hwriting.symm.trans hn) nofun,
        fun y hy => .inl (Option.some.inj (hwriting.symm.trans hy) ▸ nodeCopy_agrees s)⟩
    | false =>
      rw [hf, if_neg Bool.false_ne_true] at hwriting
      have hagrees := (h.2 w hw).resolve_right (by rw [hf]; exact Bool.false_ne_true)
      exact ⟨fun _ => (read_later (hlater ▸ hslot)).symm ▸ hagrees,
        fun y hy => absurd (hwriting.symm.trans hy) nofun⟩

/-! ## The lane copies -/

/-- Every copy of a lane's number follows the lane. -/
def LaneFollows (l : Lane) (ps : List LanePart) : Prop := ∀ p ∈ ps, p.number = l.number → p.part.Follows l.copy

theorem touchLane_follows {t : LaneTable} (hd : t.Distinct) {l : Lane} (hl : l ∈ t.lanes) {n : Nat}
    {ps : List LanePart} (h : l.number = n ∨ LaneFollows l ps) : LaneFollows l (touchLane t ps n) := by
  unfold touchLane
  split
  next hnone =>
    refine h.resolve_left fun hn => ?_
    exact absurd hn (by simpa using List.find?_eq_none.1 hnone l hl)
  next k hk =>
    obtain ⟨hmem, hn⟩ := LaneTable.lane?_some hk
    intro p hp hnum
    obtain ⟨q, hq, rfl⟩ := List.mem_map.1 hp
    by_cases hqn : q.number = n
    · rw [if_pos hqn] at hnum ⊢
      obtain rfl := eq_of_number hd hmem hl (hn.trans (hqn.symm.trans hnum))
      exact touch_follows _ _
    · rw [if_neg hqn] at hnum ⊢
      exact h.resolve_left (fun hln => hqn (hnum.trans hln)) q hq hnum

theorem foldl_touchLane_follows {t : LaneTable} (hd : t.Distinct) {l : Lane} (hl : l ∈ t.lanes)
    (ns : List Nat) {ps : List LanePart} (h : l.number ∈ ns ∨ LaneFollows l ps) :
    LaneFollows l (ns.foldl (touchLane t) ps) := by
  induction ns generalizing ps with
  | nil => exact h.resolve_left List.not_mem_nil
  | cons n ns ih =>
    refine ih ?_
    by_cases hn : l.number ∈ ns
    · exact .inl hn
    · exact .inr (touchLane_follows hd hl (h.imp_left fun hm => (List.mem_cons.1 hm).resolve_right hn))

theorem foldl_touchLane_numbers (t : LaneTable) (ns : List Nat) (ps : List LanePart) :
    (ns.foldl (touchLane t) ps).map (·.number) = ps.map (·.number) := by
  induction ns generalizing ps with
  | nil => rfl
  | cons n ns ih => exact (ih _).trans (touchLane_numbers t ps n)

theorem completeLane_follows {t : LaneTable} (hd : t.Distinct) {l : Lane} (hl : l ∈ t.lanes) (n : Nat)
    {ps : List LanePart} (h : LaneFollows l ps) : LaneFollows l (completeLane t n ps) := by
  unfold completeLane
  split
  · exact h
  next k hk =>
    obtain ⟨hmem, hn⟩ := LaneTable.lane?_some hk
    intro p hp hnum
    obtain ⟨q, hq, rfl⟩ := List.mem_map.1 hp
    by_cases hqn : q.number = n
    · rw [if_pos hqn] at hnum ⊢
      obtain rfl := eq_of_number hd hmem hl (hn.trans (hqn.symm.trans hnum))
      exact complete_follows (h q hq hnum)
    · rw [if_neg hqn] at hnum ⊢
      exact h q hq hnum

theorem completeLane_numbers (t : LaneTable) (n : Nat) (ps : List LanePart) :
    (completeLane t n ps).map (·.number) = ps.map (·.number) := by
  unfold completeLane
  split
  · rfl
  · rw [List.map_map]
    exact List.map_congr_left fun p _ => by dsimp only [Function.comp_apply]; split <;> rfl

/-! ## The retained copy within an event -/

/-- No lash timer stands in a lane copy (R117). -/
abbrev Untimed (k : LaneCopy) : Prop := ∀ r ∈ k.placed, r.lashDue = none

/-- An inbound copy holds entries as a copy holds them (R117). -/
abbrev AsRetained (es : List Inbound) : Prop := ∀ e ∈ es, e = e.retained

/-- The retained copy has a part for each lane number, and no timer stands in it (R117, R179). -/
structure RetainedSound (r : Retained) : Prop where
  numbers : r.lanes.map (·.number) = List.range 8
  untimed : r.LanesHold Untimed
  inbound : r.inbound.Holds AsRetained

/-- What differs from its copy, with no write to carry it, is handed on (R18). -/
def State.Following (s : State) : Prop :=
  (∀ l ∈ s.table.lanes, l.number ≤ 7 ∧ (l.number ∈ s.handed.lanes ∨ LaneFollows l s.retained.lanes)) ∧
  (s.conf.role = .bay → s.handed.inbound = true ∨ s.retained.inbound.Follows s.inboundCopy) ∧
  (s.handed.node = true ∨ NodeStands s s.retained.node)

/-- In the middle of an event of a node that works or closes, the copy follows but for what is handed on. -/
structure State.CopiesStand (s : State) : Prop where
  distinct : s.table.Distinct
  sound : RetainedSound s.retained
  alive : s.life ≠ .starting
  follow : s.node ≠ .unconfigured → s.retained.stopped = false → s.Following

theorem lane_untimed (l : Lane) : Untimed l.copy := by
  intro r hr
  obtain ⟨q, -, rfl⟩ := List.mem_map.1 hr
  rfl

theorem inboundCopy_asRetained (s : State) : AsRetained s.inboundCopy := by
  intro e he
  obtain ⟨d, -, rfl⟩ := List.mem_map.1 he
  rfl

theorem emptied_sound : RetainedSound Retained.emptied :=
  ⟨by decide, emptied_lanesHold _, holds_blank⟩

theorem RetainedSound.broken {r : Retained} (h : RetainedSound r) : RetainedSound r.broken :=
  ⟨by rw [Retained.broken, List.map_map]; exact h.numbers, broken_lanesHold h.untimed, h.inbound.broken⟩

theorem completeWrite_sound (part : CopyPart) (h : RetainedSound s.retained) :
    RetainedSound (s.completeWrite part).retained := by
  refine ⟨?_, completeWrite_lanesHold part h.untimed fun _ l _ => lane_untimed l,
    completeWrite_inboundHolds part h.inbound (inboundCopy_asRetained s)⟩
  cases part with
  | lane n => exact (completeLane_numbers _ _ _).trans h.numbers
  | _ => exact h.numbers

theorem completeWrite_stand (part : CopyPart) (h : s.CopiesStand) : (s.completeWrite part).CopiesStand := by
  have hsound := completeWrite_sound part h.sound
  cases part with
  | lane n =>
    refine ⟨h.distinct, hsound, h.alive, fun hn hs => ?_⟩
    obtain ⟨hl, hrest⟩ := h.follow hn hs
    exact ⟨fun l hm => ⟨(hl l hm).1, (hl l hm).2.imp_right (completeLane_follows h.distinct hm n)⟩, hrest⟩
  | inbound =>
    refine ⟨h.distinct, hsound, h.alive, fun hn hs => ?_⟩
    obtain ⟨hl, hi, hnode⟩ := h.follow hn hs
    exact ⟨hl, fun hb => (hi hb).imp_right complete_follows, hnode⟩
  | node =>
    refine ⟨h.distinct, hsound, h.alive, fun hn hs => ?_⟩
    obtain ⟨hl, hi, hnode⟩ := h.follow hn hs
    exact ⟨hl, hi, hnode.imp_right complete_nodeStands⟩

/-! ## The vehicle steps -/

theorem forall₂_and {α β : Type} {R S : α → β → Prop} {xs : List α} {ys : List β}
    (hr : List.Forall₂ R xs ys) (hs : List.Forall₂ S xs ys) :
    List.Forall₂ (fun x y => R x y ∧ S x y) xs ys := by
  induction hr with
  | nil => exact .nil
  | cons h _ ih =>
    obtain ⟨hx, hxs⟩ := List.forall₂_cons.1 hs
    exact .cons ⟨h, hx⟩ (ih hxs)

/-- A vehicle step leaves a lane's copy as it was, or hands its change on (R18). -/
theorem VehicleStep.copies {y : TallyUnit} {k : LaneTable} {h : HandedOn} (hv : VehicleStep s y k h)
    (hd : s.table.Distinct) {l : Lane} (hl : l ∈ k.lanes) :
    ∃ j ∈ s.table.lanes, l.number = j.number ∧ (l.copy = j.copy ∨ j.number ∈ h.lanes) := by
  have hold (hl : l ∈ s.table.lanes) : ∃ j ∈ s.table.lanes,
      l.number = j.number ∧ (l.copy = j.copy ∨ j.number ∈ h.lanes) := ⟨l, hl, rfl, .inl rfl⟩
  have hupdated {j : Lane} {f : Lane → Lane} (hl : l ∈ (s.table.updateLane j.number f).lanes)
      (hf : ∀ i, (f i).number = i.number) (hh : j.number ∈ h.lanes) :
      ∃ j ∈ s.table.lanes, l.number = j.number ∧ (l.copy = j.copy ∨ j.number ∈ h.lanes) := by
    rcases mem_updateLane hl with hl | ⟨i, hi, hn, rfl⟩
    · exact hold hl
    · exact ⟨i, hi, hf i, .inr (hn ▸ hh)⟩
  have htail (n : Nat) : n ∈ s.handed.lanes ++ [n] := List.mem_append_right _ (List.mem_singleton.2 rfl)
  induction hv with
  | relabelled t hb ht =>
    obtain ⟨j, hj, hsame, hcopy⟩ := forall₂_mem_right
      (forall₂_and ht.lanes (ht.copies hd)) hl
    exact ⟨j, hj, hsame.number, hcopy⟩
  | ranked j rs hb hj hrs hn hh => exact hupdated hl (fun _ => rfl) hh
  | unexpected j length hj hp hn r hr => exact hupdated hl (fun _ => rfl) (htail _)
  | matched j e m due hj he hp hn hi r hr => exact hupdated hl (fun _ => rfl) (htail _)
  | left j r hj hr hn => exact hupdated hl (fun _ => rfl) (htail _)
  | released | reserved | converted | missing => exact hold hl

/-- A vehicle step leaves the inbound copy as it was, or hands its change on (R18). -/
theorem VehicleStep.inboundCopy {y : TallyUnit} {k : LaneTable} {h : HandedOn}
    (hv : VehicleStep s y k h) :
    k.inbound.map Inbound.retained = s.inboundCopy ∨ h.inbound = true := by
  induction hv with
  | relabelled t hb ht => exact ht.copy
  | converted _ _ _ _ _ hi | missing _ _ _ hi => exact .inr hi
  | matched _ _ _ _ _ _ _ _ hi => exact .inr hi
  | _ => exact .inl rfl

/-- A vehicle step takes nothing back of what is handed on, and leaves the values of the node copy. -/
theorem VehicleStep.handsOn {y : TallyUnit} {k : LaneTable} {h : HandedOn} (hv : VehicleStep s y k h) :
    s.handed.lanes ⊆ h.lanes ∧ h.inbound = s.handed.inbound ∧ h.node = s.handed.node ∧
      y.callNumber = s.tally.callNumber ∧ y.seq = s.tally.seq := by
  induction hv with
  | unexpected | matched | left => exact ⟨List.subset_append_left _ _, rfl, rfl, rfl, rfl⟩
  | _ => exact ⟨List.Subset.refl _, rfl, rfl, rfl, rfl⟩

theorem VehicleStep.following {y : TallyUnit} {k : LaneTable} {h : HandedOn} (hv : VehicleStep s y k h)
    (hd : s.table.Distinct) (hf : s.Following) : (s.setVehicles y k h).Following := by
  obtain ⟨hlanes, hinbound, hnode⟩ := hf
  obtain ⟨hgrow, hi, hn, hcall, hseq⟩ := hv.handsOn
  refine ⟨fun l hl => ?_, fun hb => ?_, ?_⟩
  · obtain ⟨j, hj, hnum, hcopy⟩ := hv.copies hd hl
    obtain ⟨h7, hfollows⟩ := hlanes j hj
    refine ⟨hnum.trans_le h7, ?_⟩
    rcases hcopy with hcopy | hh
    · refine hfollows.imp (fun hm => hnum.symm ▸ hgrow hm) fun hp p hm hpn => ?_
      exact hcopy.symm ▸ hp p hm (hpn.trans hnum)
    · exact .inl (hnum.symm ▸ hh)
  · rcases hv.inboundCopy with hcopy | hh
    · refine (hinbound hb).imp hi.trans fun hp => ?_
      exact (show (s.setVehicles y k h).inboundCopy = s.inboundCopy from hcopy).symm ▸ hp
    · exact .inl hh
  · have hagrees {w : NodeCopy} (hw : w.Agrees s) : w.Agrees (s.setVehicles y k h) :=
      ⟨hw.1.trans hcall.symm, fun hb => (hw.2.1 hb).trans hseq.symm, hw.2.2⟩
    exact hnode.imp hn.trans fun hp => ⟨fun h => hagrees (hp.1 h), fun w h => (hp.2 w h).imp_left hagrees⟩

/-! ## A start -/

/-- A part of a lane number is the one its copy is read from (R179). -/
theorem keptLane_part {r : Retained} (h : RetainedSound r) {p : LanePart} (hp : p ∈ r.lanes) :
    r.keptLane p.number = p.part.kept := by
  unfold Retained.keptLane
  have hnodup : (r.lanes.map (·.number)).Nodup := h.numbers ▸ List.nodup_range
  split
  next q hq =>
    have hnum : q.number = p.number := by simpa using List.find?_some hq
    rw [List.inj_on_of_nodup_map hnodup (List.mem_of_find?_eq_some hq) hp hnum]
  next hq => exact absurd (decide_eq_true rfl) (List.find?_eq_none.1 hq p hp)

/-- A restored lane that is not written at the start has the copy it was restored from (R24, R180). -/
theorem restoreLane_copy {gap : Int} {due : Nat} {k : LaneConf} {x : Kept LaneCopy}
    (hx : ∀ w ∈ x.content?, Untimed w) (hw : writtenAtStart gap k x = false) :
    x = .valid (restoreLane gap due k x).copy := by
  cases x with
  | blank => exact absurd hw nofun
  | invalid => exact absurd hw nofun
  | valid w =>
    have hsound : w.sound gap k = true := by simpa [writtenAtStart] using hw
    have hplaced : (w.placed.map (Record.restored due)).map Record.retained = w.placed := by
      rw [List.map_map]
      refine (List.map_congr_left fun r hr => ?_).trans (List.map_id _)
      show ({ r with lashDue := none } : Record) = r
      rw [← hx w rfl r hr]
    have hl : restoreLane gap due k (.valid w) =
        { number := k.number, conf := k, stored := w.stored, suspect := false
          placed := w.placed.map (Record.restored due), used := w.used, sockets := w.sockets } :=
      if_pos hsound
    rw [hl, Lane.copy, hplaced]

/-- An inbound list that is not written at the start has the copy it was restored from (R180). -/
theorem restored_inboundCopy {r : Retained} {ls : List Lane} {due : Nat}
    (hr : r.inbound.Holds AsRetained) (hw : r.inboundWritten ls = false) :
    r.inbound.kept = .valid
      (((r.keptInbound.filter (keepsEntry ls)).map (Inbound.restored due)).map Inbound.retained) := by
  unfold Retained.inboundWritten at hw
  unfold Retained.keptInbound
  cases hk : r.inbound.kept with
  | blank => rw [hk] at hw; exact absurd hw nofun
  | invalid => rw [hk] at hw; exact absurd hw nofun
  | valid es =>
    rw [hk] at hw
    have hall : es.filter (keepsEntry ls) = es := by
      rw [List.filter_eq_self]; simpa using hw
    show _ = Kept.valid (List.map _ (List.map _ (es.filter (keepsEntry ls))))
    rw [hall, List.map_map]
    refine congrArg Kept.valid (((List.map_congr_left fun e he => ?_).trans (List.map_id _)).symm)
    exact (hr.1 es (by rw [hk]; rfl) e he).symm

theorem still_parts {r : Retained} (h : r.writeInFlight = false) :
    (∀ p ∈ r.lanes, p.part.writing = none) ∧ r.inbound.writing = none ∧ r.node.writing = none := by
  simp only [Retained.writeInFlight, Bool.or_eq_false_iff, List.any_eq_false,
    Option.isSome_eq_false_iff, Option.isNone_iff_eq_none, Bool.not_eq_true] at h
  exact ⟨h.1.1, h.1.2, h.2⟩

theorem follows_of_still {α : Type} {x : α} {p : Part α} (hw : p.writing = none) (hk : p.kept = .valid x) :
    p.Follows x := ⟨fun _ => hk, fun _ hy => absurd (hw.symm.trans hy) nofun⟩

/-- A start with no write in flight leaves a copy that follows but for what it hands on (R180). -/
theorem booted_following (b : Bool) (g : Fin 4) (hr : RetainedSound s.retained)
    (hw : s.retained.writeInFlight = false) (hn : (s.booted b g).node ≠ .unconfigured) :
    (s.booted b g).Following := by
  obtain ⟨hlanes, hinbound, hnode⟩ := still_parts hw
  cases hload : loadConfig s.store with
  | none => rw [booted_none b g hload] at hn; exact absurd rfl hn
  | some x =>
    obtain ⟨k, altered⟩ := x
    rw [booted_some b g hload]
    cases hk : k.role with
    | bay =>
      dsimp only
      rw [handStartWrites_eq]
      refine ⟨fun l hl => ?_, fun _ => ?_, .inr ⟨fun _ => ⟨rfl, fun _ => rfl, fun h => ?_⟩,
        fun w h => absurd (hnode.symm.trans h) nofun⟩⟩
      · obtain ⟨q, hq, rfl⟩ := List.mem_map.1 hl
        obtain ⟨-, -, -, ⟨-, -, hin, -⟩, -⟩ := loadConfig_inRange hload
        have hnum := (restoreLane_conf k.gap (s.now + 1000 * lashLimit k.lashClass) q
          (s.retained.keptLane q.number)).1
        refine ⟨hnum.trans_le (hin q hq).1, ?_⟩
        cases hwritten : writtenAtStart k.gap q (s.retained.keptLane q.number) with
        | true =>
          refine .inl (List.mem_append_right _ ?_)
          exact hnum.symm ▸ List.mem_map.2 ⟨q, List.mem_filter.2 ⟨hq, hwritten⟩, rfl⟩
        | false =>
          refine .inr fun p hp hpn => follows_of_still (hlanes p hp) ?_
          have hkept := keptLane_part hr hp
          rw [hpn.trans hnum] at hkept
          exact hkept.symm.trans (restoreLane_copy
            (fun w hw => (hr.untimed p hp).1 w (hkept ▸ hw)) hwritten)
      · cases hwritten : s.retained.inboundWritten (restoredTable s.now k s.retained).lanes with
        | true => exact .inl ((congrArg (s.handed.inbound || ·) hwritten).trans (Bool.or_true _))
        | false => exact .inr (follows_of_still hinbound (restored_inboundCopy hr.inbound hwritten))
      · exact absurd (hk.symm.trans h) nofun
    | ramp =>
      exact ⟨fun l hl => absurd hl List.not_mem_nil, fun hb => absurd (hk.symm.trans hb) nofun,
        .inr ⟨fun _ => ⟨rfl, fun hb => absurd (hk.symm.trans hb) nofun, fun _ => rfl⟩,
          fun w h => absurd (hnode.symm.trans h) nofun⟩⟩

theorem booted_life (b : Bool) (g : Fin 4) (s : State) : (s.booted b g).life = .running := by
  rcases booted_cases b g s with ⟨_, h⟩ | ⟨k, _, _, ⟨_, _, h⟩ | ⟨_, h⟩⟩ <;> rw [h] <;> rfl

theorem booted_stand (b : Bool) (g : Fin 4) (hr : RetainedSound s.retained)
    (hw : s.retained.writeInFlight = false) : (s.booted b g).CopiesStand where
  distinct := s.booted_distinct b g
  sound := by rw [s.booted_retained b g]; exact ⟨hr.numbers, hr.untimed, hr.inbound⟩
  alive := by rw [booted_life]; exact nofun
  follow hn _ := booted_following b g hr hw hn

/-! ## The small steps -/

theorem NodeStep.configured {n : NodeState} (h : NodeStep s n) : s.node ≠ .unconfigured := by
  intro hn
  induction h with
  | active h => exact h.elim (fun h => absurd (hn.symm.trans h) nofun) fun h => absurd (hn.symm.trans h) nofun
  | recovery h => exact absurd (hn.symm.trans h) nofun
  | withdrawn h => exact absurd (hn.symm.trans h) nofun

/-- A small step of a node that does not wait for its start keeps the copy following but for what is handed
on. -/
theorem Micro.copies (h : Micro c u v) (hc : c ≠ .powerOn) (hu : u.CopiesStand) : v.CopiesStand := by
  have hrest (hn : u.node ≠ .unconfigured) (hs : u.retained.stopped = false) := hu.follow hn hs
  induction h with
  | hand h hg =>
    refine { hu with follow := fun hn hs => ?_ }
    obtain ⟨hl, hi, hnode⟩ := hrest hn hs
    exact ⟨fun l hm => ⟨(hl l hm).1, (hl l hm).2.imp_left fun hh => hg.lanes hh⟩,
      fun hb => (hi hb).imp_left hg.inbound, hnode.imp_left hg.node⟩
  | closing => exact { hu with alive := nofun }
  | powered hp => exact absurd hp hc
  | stored k => exact { hu with sound := emptied_sound, follow := fun _ hs => absurd hs nofun }
  | completed part => exact completeWrite_stand part hu
  | started b g hstart hd =>
    refine booted_stand b g hu.sound ?_
    unfold State.startDue at hd
    split at hd
    · exact absurd hd nofun
    next h => exact absurd h hu.alive
    · simpa using hd
  | node n hn => exact { hu with follow := fun _ hs => hrest hn.configured hs }
  | tally y hy =>
    induction hy with
    | built hnode | called hnode =>
      refine { hu with follow := fun hn hs => ?_ }
      obtain ⟨hl, hi, -⟩ := hrest hn hs
      exact ⟨hl, hi, .inl hnode⟩
    | _ => exact { hu with }
  | rounds rc hrc =>
    induction hrc with
    | opened _ _ _ hnode =>
      refine { hu with follow := fun hn hs => ?_ }
      obtain ⟨hl, hi, -⟩ := hrest hn hs
      exact ⟨hl, hi, .inl hnode⟩
    | _ => exact { hu with }
  | settled =>
    unfold State.settleRestart State.restartEvaluation
    split
    · split <;> exact { hu with }
    · exact { hu with }
  | vehicles y k h hv =>
    exact { hu with
      distinct := hv.distinct hu.distinct
      follow := fun hn hs => hv.following hu.distinct (hrest hn hs) }
  | _ => exact { hu with }

theorem Steps.copies (h : Steps c u v) (hc : c ≠ .powerOn) (hu : u.CopiesStand) : v.CopiesStand := by
  induction h with
  | refl => exact hu
  | tail _ hm ih => exact hm.copies hc ih

/-! ## The start and the end of an event -/

theorem copiesStand_unmoved (hs : s.CopiesFollow) (ha : s.life ≠ .starting) : s.unmoved.CopiesStand := by
  obtain ⟨hd, hnum, hlanes, hin, -, hf⟩ := hs
  refine ⟨hd, ⟨hnum, hlanes, hin⟩, ha, fun hn hst => ?_⟩
  obtain ⟨hl, hi, hnode⟩ := hf ha hn hst
  exact ⟨fun l hm => ⟨(hl l hm).1, .inr (hl l hm).2⟩, fun hb => .inr (hi hb), .inr hnode⟩

/-- The copy writes that end an event carry what was handed on (R18, R179). -/
theorem written_copiesFollow (h : u.CopiesStand) : u.written.CopiesFollow := by
  have hlanes := written_lanesHold h.sound.untimed fun _ l _ => lane_untimed l
  have hin := written_inboundHolds h.sound.inbound (inboundCopy_asRetained u)
  obtain ⟨r, hr⟩ := u.written_eq
  rcases u.written_retained with ⟨hnone, he⟩ | ⟨hsome, he⟩
  · rw [hr] at hlanes hin he ⊢
    refine ⟨h.distinct, (congrArg (·.lanes.map (·.number)) he).trans h.sound.numbers, hlanes, hin,
      fun hl => absurd hl h.alive, fun _ hn hs => ?_⟩
    exact absurd hnone (not_or.2 ⟨hn, Bool.eq_false_iff.1 ((congrArg Retained.stopped he).symm.trans hs)⟩)
  · obtain ⟨hl, hi, hnode⟩ := h.follow (fun hn => hsome (.inl hn))
      (Bool.eq_false_iff.2 fun hs => hsome (.inr hs))
    have hlanesNow (l : Lane) (hm : l ∈ u.table.lanes) : l.number ≤ 7 ∧
        LaneFollows l (u.handed.lanes.dedup.foldl (touchLane u.table) u.retained.lanes) :=
      ⟨(hl l hm).1, foldl_touchLane_follows h.distinct hm _ ((hl l hm).2.imp_left List.mem_dedup.2)⟩
    have hinNow (hb : u.conf.role = .bay) : (if u.handed.inbound then u.retained.inbound.touch u.inboundCopy
        else u.retained.inbound).Follows u.inboundCopy := by
      split
      · exact touch_follows _ _
      next hh => exact (hi hb).resolve_left hh
    have hnodeNow : NodeStands u (if u.handed.node then u.retained.node.touch u.nodeCopy
        else u.retained.node) := by
      split
      · exact touch_nodeStands u _
      next hh => exact hnode.resolve_left hh
    rw [hr] at hlanes hin he ⊢
    obtain rfl : r = _ := he
    exact ⟨h.distinct, (foldl_touchLane_numbers _ _ _).trans h.sound.numbers, hlanes, hin,
      fun hl => absurd hl h.alive, fun _ _ _ => ⟨hlanesNow, hinNow, hnodeNow⟩⟩

/-! ## A node that waits for its start -/

/-- A node that waits for its start has no write in flight, and none is begun. -/
theorem copiesFollow_of_starting (hd : t.table.Distinct) (hr : RetainedSound t.retained)
    (hl : t.life = .starting) (hw : t.retained.writeInFlight = false) : t.CopiesFollow :=
  ⟨hd, hr.numbers, hr.untimed, hr.inbound, fun _ => hw, fun ha => absurd hl ha⟩

/-- Whatever command but a start reaches a node that waits for one, it leaves the table and the copy, or empties
the copy (R177, R178). -/
theorem exec_starting (hl : s.life = .starting) (hw : s.retained.writeInFlight = false)
    (hp : c ≠ .powerOn) (hc : ∀ b g, c ≠ .start b g) :
    ∃ t, exec c s = .next t ∧ t.life = .starting ∧ t.table = s.table ∧
      (t.retained = s.retained ∨ t.retained = Retained.emptied) := by
  have hconf : ¬ s.Configured := fun h => absurd (hl.symm.trans h.1) nofun
  by_cases ha : reachesAnyNode c = false
  · exact ⟨_, exec_not_configured hconf ha (fun h => absurd (hl.symm.trans h) nofun), hl, rfl, .inl rfl⟩
  · cases c with
    | powerOn => exact absurd rfl hp
    | start b g => exact absurd rfl (hc b g)
    | configurationWrite k =>
      exact ⟨_, congrArg Host.Outcome.next (event_only (f := State.takeConfigWrite k)
        (u := { s with store := k, retained := Retained.emptied }) rfl), hl, rfl, .inr rfl⟩
    | copyWriteCompletion part =>
      exact ⟨_, congrArg Host.Outcome.next (event_only (f := State.completeWrite part) (u := s)
        (completeWrite_still (s := s.unmoved) part hw)), hl, rfl, .inl rfl⟩
    | stopLineRisingEdge =>
      exact ⟨_, congrArg Host.Outcome.next (event_only (u := { s with stopLine := true })
        (if_neg hconf)), hl, rfl, .inl rfl⟩
    | gradientClassChange g =>
      exact ⟨_, congrArg Host.Outcome.next (event_only (u := { s with gradientPin := g })
        (if_neg fun h => hconf h.1)), hl, rfl, .inl rfl⟩
    | _ => exact absurd rfl ha

theorem exec_keeps_copies (h : exec c s = .next t) (hs : s.CopiesFollow) : t.CopiesFollow := by
  obtain ⟨hd, hnum, hlanes, hin, hstill, -⟩ := id hs
  have hsound : RetainedSound s.retained := ⟨hnum, hlanes, hin⟩
  by_cases hp : c = .powerOn
  · subst hp
    obtain rfl := Host.Outcome.next.inj ((congrArg Host.Outcome.next (event_only
      (f := State.takePowerOn) (u := { s with life := .starting, retained := s.retained.broken })
      rfl)).symm.trans h)
    exact copiesFollow_of_starting hd hsound.broken rfl (broken_still _)
  by_cases hl : s.life = .starting
  · have hw := hstill hl
    by_cases hc : ∃ b g, c = .start b g
    · obtain ⟨b, g, rfl⟩ := hc
      have hdue : s.startDue = true := by unfold State.startDue; rw [hl]
      obtain ⟨w, hsteps, -, he⟩ := event_steps (c := .start b g) (s := s) (u := s.unmoved.booted b g)
        (f := fun v => if v.startDue then v.takeStart b g else v)
        ((if_pos (show s.unmoved.startDue = true from hdue)).symm ▸ booted_steps b g)
      obtain rfl := Host.Outcome.next.inj ((congrArg Host.Outcome.next he).symm.trans h)
      exact written_copiesFollow (Steps.copies hsteps hp (booted_stand b g hsound hw))
    · obtain ⟨w, he, hlife, htable, hret⟩ := exec_starting hl hw hp fun b g e => hc ⟨b, g, e⟩
      obtain rfl := Host.Outcome.next.inj (he.symm.trans h)
      have hd' : w.table.Distinct := htable.symm ▸ hd
      rcases hret with hret | hret
      · exact copiesFollow_of_starting hd' (hret.symm ▸ hsound) hlife (hret.symm ▸ hw)
      · exact copiesFollow_of_starting hd' (hret.symm ▸ emptied_sound) hlife (hret.symm ▸ emptied_still)
  · obtain ⟨w, hsteps, -, he⟩ := exec_steps c s
    obtain rfl := Host.Outcome.next.inj (he.symm.trans h)
    exact written_copiesFollow (Steps.copies hsteps hp (copiesStand_unmoved hs hl))

/-- Settles O14: within an event every small step hands on what it changes, and the writes that end the event
carry it; a node that waits for its start begins none. -/
theorem copiesKeptFollowing : Obligations.CopiesKeptFollowing := by
  intro s t h hs
  unfold step at h
  split at h
  · obtain rfl : s.tick = t := Host.Outcome.next.inj h
    exact hs
  · exact exec_keeps_copies h hs

end Sys2Proof.Machine

end

section
/-! PROOFS. The start of a bay (O24). -/

namespace Sys2Proof.Machine

open Sys2Proof

variable {s t : State} {b : Bool} {g : Fin 4} {k : Conf} {altered : Bool}

/-! ## The restored lanes under the look at the stop line (R23, R181) -/

/-- A restored lane after the look at the stop line, which is high or low (R23, R181). -/
def Lane.looked (b : Bool) (l : Lane) : Lane := if b then l.stopped else l

/-- The restored table after the look at the stop line. -/
def LaneTable.looked (b : Bool) (t : LaneTable) : LaneTable :=
  { t with lanes := t.lanes.map (Lane.looked b) }

theorem looked_low (t : LaneTable) : t.looked false = t :=
  congrArg (fun ls => { t with lanes := ls }) (List.map_id t.lanes)

theorem looked_high (t : LaneTable) : t.looked true = { t with lanes := t.lanes.map Lane.stopped } :=
  congrArg (fun ls => { t with lanes := ls }) (List.map_congr_left fun _ _ => if_pos rfl)

theorem looked_same (b : Bool) (l : Lane) : l.Same (l.looked b) := by
  cases b
  · exact Lane.Same.refl l
  · exact { Lane.Same.refl l with }

/-- The look at the stop line moves no own sum (R49). -/
theorem looked_sums (b : Bool) (t : LaneTable) :
    (t.looked b).sumT = t.sumT ∧ (t.looked b).sumL = t.sumL := by
  have hplaces : (t.looked b).lanes.map (fun l => (l.number, l.conf)) =
      t.lanes.map fun l => (l.number, l.conf) :=
    (List.map_map).trans (List.map_congr_left fun l _ => by
      rw [Function.comp_apply, (looked_same b l).number, (looked_same b l).conf])
  have hT : (t.looked b).lanes.map Lane.sumT = t.lanes.map Lane.sumT :=
    (List.map_map).trans (List.map_congr_left fun l _ => (looked_same b l).moments.1)
  have hL : (t.looked b).lanes.map Lane.sumL = t.lanes.map Lane.sumL :=
    (List.map_map).trans (List.map_congr_left fun l _ => (looked_same b l).moments.2)
  rw [sums_of hplaces, LaneTable.sumL, hT, hL]
  exact ⟨rfl, rfl⟩

/-- The look at the stop line changes no lane number and no placed record, which is all that decides on an
inbound entry (R180). -/
theorem keepsEntry_looked (b : Bool) (t : LaneTable) :
    keepsEntry (t.looked b).lanes = keepsEntry t.lanes := by
  cases b
  · rw [looked_low]
  · funext e
    unfold keepsEntry LaneTable.looked
    rw [List.any_map, List.any_map]
    rfl

theorem inboundWritten_looked (b : Bool) (t : LaneTable) (r : Retained) :
    r.inboundWritten (t.looked b).lanes = r.inboundWritten t.lanes := by
  unfold Retained.inboundWritten
  rw [keepsEntry_looked]

/-! ## The bay that a start leads to -/

/-- What a start of a bay raises, in its order (R178, R181). -/
def LaneTable.raisedByStart (b altered : Bool) (t : LaneTable) : List (Code × Option Nat) :=
  t.raisedAtListen altered ++ if b then [(.stop, none)] else []

/-- The bay that a start leads to before its event ends, and what it hands on (R24, R180, R181). -/
def State.startedBay (b : Bool) (g : Fin 4) (k : Conf) (altered : Bool) (s : State) : State :=
  { s with
    stopLine := b, gradientPin := g, life := .running, node := .listen, conf := k
    table := (restoredTable s.now k s.retained).looked b
    eval := { Evaluator.idle with
      congested := decide (k.congestHigh ≤ (restoredTable s.now k s.retained).inbound.length) }
    tally := { TallyUnit.initial with
      callNumber := s.retained.node.read.callNumber, seq := s.retained.node.read.tallySeq
      ownT := (restoredTable s.now k s.retained).sumT, ownL := (restoredTable s.now k s.retained).sumL }
    dli := Dli.initial, rounds := RoundController.initial
    conditions := raiseAll s.now ((restoredTable s.now k s.retained).raisedByStart b altered) []
    sensor := { SensorPort.initial with surveyDue := some (s.now + Config.surveyTime) }
    listenDue := some (s.now + 1000 * k.listenInterval)
    retained := { s.retained with stopped := false }
    out := { s.out with surveys := s.out.surveys + 1 }
    handed := { HandedOn.clear with
      tally := true
      lanes := ((k.lanes.filter fun q => writtenAtStart k.gap q (s.retained.keptLane q.number)).map
        (·.number)) ++ if b then (restoredTable s.now k s.retained).stopChanges else []
      inbound := s.retained.inboundWritten (restoredTable s.now k s.retained).lanes } }

/-- A rising edge of the stop line at a bay, and what it hands on (R18, R23, R169, R170). -/
theorem stopEdge_eq (hr : s.conf.role = .bay) :
    s.stopEdge =
      { s with
        conditions := raiseCondition s.now .stop none s.conditions
        table := { s.table with reservations := [], lanes := s.table.lanes.map Lane.stopped }
        eval := { s.eval with inFlight := none, callQueue := [] }
        dli := s.dli.offersOut (s.table.reservations.map (·.round))
        handed := { s.handed with
          restart := s.handed.restart || !s.table.reservations.isEmpty
          tally := s.handed.tally || !s.table.stopChanges.isEmpty
          lanes := s.handed.lanes ++ s.table.stopChanges } } := by
  unfold State.stopEdge
  dsimp only
  rw [show (s.raise .stop none).conf.role = .bay from hr]
  dsimp only
  rw [stopBay_eq, handStates_eq, releaseAll_eq]
  cases s
  rfl

/-- The survey that a bay requests while none is outstanding (R173). -/
theorem requestSurvey_fresh (hv : s.sensor = SensorPort.initial) :
    s.requestSurvey =
      { s with
        sensor := { SensorPort.initial with surveyDue := some (s.now + Config.surveyTime) }
        out := { s.out with surveys := s.out.surveys + 1 } } := by
  unfold State.requestSurvey
  rw [hv]
  rfl

/-- The end of the entry to LISTEN at a bay (R181). -/
theorem listening_bay {u : State} (hu : (if s.stopLine then s.stopEdge else s) = u)
    (hr : u.conf.role = .bay) (hv : u.sensor = SensorPort.initial) :
    s.listening =
      { u with
        sensor := { SensorPort.initial with surveyDue := some (u.now + Config.surveyTime) }
        listenDue := some (u.now + 1000 * u.conf.listenInterval)
        out := { u.out with surveys := u.out.surveys + 1 }
        handed := { u.handed with tally := true } } := by
  unfold State.listening
  rw [hu]
  dsimp only
  rw [hr]
  dsimp only
  rw [requestSurvey_fresh hv]
  rfl

/-- The bay before the look at the stop line at its start (R24, R180). -/
theorem entered_bay (hr : k.role = .bay) :
    State.entering altered ((s.unmoved.loading b g k).restoreBay) =
      { s.startedBay false g k altered with
        stopLine := b, sensor := SensorPort.initial, listenDue := none, out := s.out
        handed := { (s.startedBay false g k altered).handed with tally := false } } := by
  rw [entering_bay_eq altered (s := (s.unmoved.loading b g k).restoreBay) hr, handStartWrites_eq]
  unfold State.startedBay LaneTable.raisedByStart
  rw [looked_low]
  dsimp only
  rw [if_neg Bool.false_ne_true, if_neg Bool.false_ne_true, List.append_nil, List.append_nil]
  rfl

theorem takeStart_bay (hload : loadConfig s.store = some (k, altered)) (hr : k.role = .bay) :
    s.unmoved.takeStart b g = s.startedBay b g k altered := by
  rw [takeStart_some (s := s.unmoved) b g hload, hr]
  dsimp only
  rw [entered_bay hr]
  cases b
  · exact listening_bay rfl hr rfl
  · refine (listening_bay ((if_pos rfl).trans (stopEdge_eq hr)) hr rfl).trans ?_
    unfold State.startedBay
    rw [looked_low, looked_high, offersOut_of_empty rfl]
    unfold LaneTable.raisedByStart
    dsimp only
    rw [if_neg Bool.false_ne_true, if_neg Bool.false_ne_true, if_pos rfl, if_pos rfl,
      List.append_nil, List.append_nil, raiseAll_append]
    rfl

/-! ## What it makes of a lane copy, and what it raises -/

theorem mem_looked {t : LaneTable} {l : Lane} (h : l ∈ (t.looked b).lanes) : ∃ m ∈ t.lanes, m.looked b = l :=
  List.mem_map.1 h

/-- A stored state after the look at the stop line (R23). -/
def LaneState.looked (b : Bool) (st : LaneState) : LaneState :=
  if b then
    match st with
    | .opened => .closed
    | .closed => .closed
    | .fault _ => .fault .closed
  else st

theorem looked_stored (b : Bool) (l : Lane) : (l.looked b).stored = l.stored.looked b := by
  cases b <;> rfl

theorem looked_content (b : Bool) (l : Lane) :
    (l.looked b).suspect = (!b && l.suspect) ∧ (l.looked b).placed = l.placed ∧
      (l.looked b).used = l.used ∧ (l.looked b).sockets = l.sockets := by
  cases b <;> exact ⟨rfl, rfl, rfl, rfl⟩

theorem restoreLane_sound {gap : Int} {due : Nat} {q : LaneConf} {c : LaneCopy} (h : c.sound gap q = true) :
    restoreLane gap due q (.valid c) =
      { number := q.number, conf := q, stored := c.stored, suspect := false
        placed := c.placed.map (Record.restored due), used := c.used, sockets := c.sockets } := if_pos h

theorem restoreLane_unsound {gap : Int} {due : Nat} {q : LaneConf} {c : LaneCopy}
    (h : ¬ c.sound gap q = true) : restoreLane gap due q (.valid c) = emptyLane q .opened := if_neg h

theorem restoreLane_suspect (gap : Int) (due : Nat) (q : LaneConf) (y : Kept LaneCopy) :
    (restoreLane gap due q y).suspect = false := by
  cases y with
  | blank => rfl
  | invalid => rfl
  | valid c =>
    by_cases h : c.sound gap q = true
    · rw [restoreLane_sound h]
    · rw [restoreLane_unsound h]
      rfl

theorem sound_iff {gap : Int} {q : LaneConf} {c : LaneCopy} :
    c.sound gap q = true ↔ c.used = extentSum gap c.placed ∧ c.sockets ≤ q.sockets := by
  unfold LaneCopy.sound
  rw [Bool.and_eq_true, decide_eq_true_eq, decide_eq_true_eq]

/-- The stored state that a lane copy gives (R24). -/
theorem restoreLane_stored (gap : Int) (due : Nat) (q : LaneConf) (y : Kept LaneCopy) :
    (restoreLane gap due q y).stored =
      match y with
      | .blank => OpenClosed.asStored q.firstState
      | .invalid => .opened
      | .valid c => if c.sound gap q then c.stored else .opened := by
  cases y with
  | blank => rfl
  | invalid => rfl
  | valid c =>
    by_cases h : c.sound gap q = true
    · rw [restoreLane_sound h]
      exact (if_pos h).symm
    · rw [restoreLane_unsound h]
      exact (if_neg h).symm

/-- The lanes in FAULT, each with its LANE FAULT (R181). -/
theorem faults_raised (ls : List Lane) :
    ((ls.filter Lane.inFault).map fun l => (Code.laneFault, some l.number)) =
      ls.filterMap fun l => if l.inFault then some (Code.laneFault, some l.number) else none := by
  induction ls with
  | nil => rfl
  | cons l ls ih =>
    cases h : l.inFault
    · rw [List.filter_cons_of_neg (Bool.eq_false_iff.1 h), List.filterMap_cons, h]
      exact ih
    · rw [List.filter_cons_of_pos h, List.filterMap_cons, h]
      exact congrArg _ ih

/-- The flags of a record that raise PLACEMENT BREACH, MISDIRECTED and OVERCARRIED, listed (R131, R181). -/
theorem flags_listed :
    Flag.isBreach = ([Flag.overstow, .segregation, .axle, .filter, .noSocket].contains ·) ∧
      (fun f => decide (f = Flag.misdirected)) = ([Flag.misdirected].contains ·) ∧
      (fun f => decide (f = Flag.overcarried)) = ([Flag.overcarried].contains ·) := by
  refine ⟨?_, ?_, ?_⟩ <;> funext f <;> cases f <;> rfl

/-- A due START at a bay ends as the bay it leads to hands on. -/
theorem start_bay_ends (hd : s.startDue = true) (hload : loadConfig s.store = some (k, altered))
    (hr : k.role = .bay) :
    ∃ t, exec (.start b g) s = .next t ∧ BayEnds (s.startedBay b g k altered) t := by
  obtain ⟨t, ht, he⟩ := event_bay (f := fun s => if s.startDue then s.takeStart b g else s)
    ((if_pos (show s.unmoved.startDue = true from hd)).trans (takeStart_bay hload hr)) ⟨⟨rfl, nofun⟩, hr⟩
    (.inl rfl)
  exact ⟨t, congrArg Host.Outcome.next ht, he⟩

/-- The first TALLY after a start, built at once: the line is NORMAL and no build is held against it (R140). -/
theorem startedBay_tally (he : BayEnds (s.startedBay b g k altered) t) :
    t.tally =
      { callNumber := s.retained.node.read.callNumber
        ownT := (restoredTable s.now k s.retained).sumT, ownL := (restoredTable s.now k s.retained).sumL
        seq := s.retained.node.read.tallySeq + 1, lastBuild := some s.now, pendingChange := false
        peers := [] } ∧
      t.dli = (Dli.initial.handInNormal t.tally.callNumber (.tally (t.tallyPayload t.tally.seq))).1 := by
  obtain ⟨hc, hT, hL, hcall, hpeers⟩ := (if_pos rfl).mp he.tally
  obtain ⟨hseq, hlast, hpend, hdli⟩ := (if_pos rfl).mp hc
  have htally : t.tally = ⟨t.tally.callNumber, t.tally.ownT, t.tally.ownL, t.tally.seq, t.tally.lastBuild,
    t.tally.pendingChange, t.tally.peers⟩ := rfl
  have hnow : t.now = s.now := (congrArg State.now (he.frame_still rfl :) :)
  rw [hcall, hT, hL, hseq, hlast, hpend, hpeers, hnow, Int.add_zero, Int.add_zero] at htally
  exact ⟨htally, hdli⟩

/-- What a lane copy gives of the vehicles of its lane (R24, R117, R180). -/
theorem restoreLane_content (gap : Int) (due : Nat) (q : LaneConf) (y : Kept LaneCopy) :
    match y with
    | .blank => (restoreLane gap due q y).placed = [] ∧ (restoreLane gap due q y).used = 0 ∧
        (restoreLane gap due q y).sockets = 0
    | .invalid => (restoreLane gap due q y).placed = [] ∧ (restoreLane gap due q y).used = 0 ∧
        (restoreLane gap due q y).sockets = 0
    | .valid c =>
      if c.used = extentSum gap c.placed ∧ c.sockets ≤ q.sockets then
        (restoreLane gap due q y).used = c.used ∧ (restoreLane gap due q y).sockets = c.sockets ∧
          (restoreLane gap due q y).placed = c.placed.map (Record.restored due)
      else (restoreLane gap due q y).placed = [] ∧ (restoreLane gap due q y).used = 0 ∧
        (restoreLane gap due q y).sockets = 0 := by
  cases y with
  | blank => exact ⟨rfl, rfl, rfl⟩
  | invalid => exact ⟨rfl, rfl, rfl⟩
  | valid c =>
    dsimp only
    by_cases h : c.sound gap q = true
    · rw [restoreLane_sound h, if_pos (sound_iff.1 h)]
      exact ⟨rfl, rfl, rfl⟩
    · rw [restoreLane_unsound h, if_neg (sound_iff.not.1 h)]
      exact ⟨rfl, rfl, rfl⟩

/-- Settles O24. -/
theorem startOfABay : Obligations.StartOfABay := by
  refine ⟨fun s b g hd x hload hr => ?_, fun s b g hd x hload hr => ?_⟩ <;>
    obtain ⟨t, ht, he⟩ := start_bay_ends (b := b) (g := g) hd hload hr <;>
    have hf := he.frame_still rfl
  · refine ⟨t, ht, ?_⟩
    have htable : t.table = (restoredTable s.now x.1 s.retained).looked b := (congrArg State.table hf :)
    obtain ⟨htally, hdli⟩ := startedBay_tally he
    refine ⟨(congrArg State.life hf :), (congrArg State.node hf :), (congrArg State.conf hf :),
      (congrArg State.stopLine hf :), (congrArg State.gradientPin hf :), (congrArg State.listenDue hf :),
      (congrArg State.sensor hf :), (congrArg State.out hf :), (congrArg State.rounds hf :), ?_⟩
    rw [htable, (looked_sums b _).1, (looked_sums b _).2, inboundWritten_looked]
    refine ⟨rfl, ?_, ?_, ?_, he.still rfl, htally, hdli, he.copied rfl rfl rfl (Bool.or_true _),
      (congrArg State.now hf :), (congrArg State.store hf :), (congrArg State.pending hf :)⟩
    · show ((List.map _ _).map _).map _ = _
      rw [List.map_map, List.map_map]
      refine (List.map_congr_left fun q _ => ?_).trans (List.map_id _)
      exact (looked_same b _).conf.trans (restoreLane_conf _ _ _ _).2
    · intro l hl
      obtain ⟨m, hm, rfl⟩ := mem_looked hl
      obtain ⟨q, -, rfl⟩ := List.mem_map.1 hm
      obtain ⟨hsuspect, hplaced, hused, hsockets⟩ := looked_content b
        (restoreLane x.1.gap (s.now + 1000 * lashLimit x.1.lashClass) q (s.retained.keptLane q.number))
      rw [(looked_same b _).number, (looked_same b _).conf, (restoreLane_conf _ _ _ _).1,
        (restoreLane_conf _ _ _ _).2, looked_stored, hsuspect, hplaced, hused, hsockets,
        restoreLane_suspect]
      exact ⟨rfl, Bool.and_false _, congrArg (LaneState.looked b) (restoreLane_stored _ _ _ _),
        restoreLane_content _ _ _ _⟩
    · have hentries := keepsEntry_looked b (restoredTable s.now x.1 s.retained)
      exact (congrArg (fun p => (s.retained.keptInbound.filter p).map _) hentries).symm
  · refine ⟨t, ht, (congrArg State.conditions hf :).trans (congrArg (fun l => raiseAll s.now l []) ?_)⟩
    unfold LaneTable.raisedByStart LaneTable.raisedAtListen LaneTable.raisedAtStart
    rw [faults_raised, ← List.append_assoc]
    refine congrArg₂ HAppend.hAppend (congrArg₂ HAppend.hAppend (congrArg (HAppend.hAppend _) ?_) ?_) rfl
    · refine List.filterMap_congr fun l _ => ?_
      unfold Lane.inFault
      cases l.stored <;> rfl
    · refine congrArg (List.flatMap · _) (funext fun l => ?_)
      obtain ⟨hbreach, hmis, hover⟩ := flags_listed
      unfold Lane.raisedAtStart
      rw [hbreach, hmis, hover]

end Sys2Proof.Machine
end

end
